-- ==== Sys2Proof/Word.lean ====
section
/-! DEFINITION. The word and byte types of the block (spec/00_scope.md R6: `W` = 32 bits, little-endian bytes). -/

namespace Sys2Proof

/-- A register value, an address or the data of one transaction: 32 bits (R6). -/
abbrev Word := BitVec 32

/-- One byte of the emulator's memory, of a key, of an IV or of a share. -/
abbrev Byte := BitVec 8

end Sys2Proof
end

