-- ==== Sys2Proof/Machine/Bits.lean ====
section
/-! DEFINITION. Bit fields, shifts and byte order: the primitives of spec/00_scope.md R7 and R8, and of
spec/41_sha256.md R160 and R161. -/

namespace Sys2Proof.Machine

/-- `v[i]` of R7. -/
def bit (v : Word) (i : Nat) : Bool := v.getLsbD i

/-- The byte `v[8n+7 : 8n]` of a word. -/
def wordByte (v : Word) (n : Nat) : Byte := v.extractLsb' (8 * n) 8

/-- `bswap32(x) = {x[7:0], x[15:8], x[23:16], x[31:24]}` (R8). -/
def bswap32 (x : Word) : Word := wordByte x 0 ++ wordByte x 1 ++ wordByte x 2 ++ wordByte x 3

/-- `le32(b0,b1,b2,b3) = {b3, b2, b1, b0}` (R8). -/
def le32 (b0 b1 b2 b3 : Byte) : Word := b3 ++ b2 ++ b1 ++ b0

/-- The four bytes of a word as they lie in memory, the byte at the lowest address first (R63). -/
def wordBytes (v : Word) : List Byte := [wordByte v 0, wordByte v 1, wordByte v 2, wordByte v 3]

/-- The value of one to four bytes read little-endian and zero-extended to 32 bits (R63, R8 `zext_32`). -/
def leValue (bs : List Byte) : Word := le32 (bs.getD 0 0) (bs.getD 1 0) (bs.getD 2 0) (bs.getD 3 0)

/-- `shr(x, n) = floor(x / 2^n)` (R161). -/
def shr (x : Word) (n : Nat) : Word := x >>> n

/-- `rotr(x, n) = shr(x, n) | (x << (32 − n)) mod 2^32` (R161). -/
def rotr (x : Word) (n : Nat) : Word := shr x n ||| x <<< (32 - n)

end Sys2Proof.Machine
end

