-- ==== Sys2Proof/Syntax.lean ====
section
/-! DEFINITION. The transactions of the block (spec/30_encoding.md R80), the host calls (spec/45_secret_sharing.md), and
`Instr`, one constructor per row of spec/opcode_table.json: in this block an instruction is one bus transaction on one
register or one host call (spec/00_scope.md R2). -/

namespace Sys2Proof

/-- The four register-file models (R8, R60). -/
inductive Periph where
  | trng | sha | rosc | resets
  deriving DecidableEq, Repr

/-- The named registers of the TRNG (10_state.md R25). -/
inductive TrngReg where
  | rngImr | rngIsr | rngIcr | trngConfig | trngValid | ehrData0 | ehrData1 | ehrData2 | ehrData3 | ehrData4
  | ehrData5 | rndSourceEnable | sampleCnt1 | trngDebugControl | trngSwReset | trngBusy
  deriving DecidableEq, Repr

/-- The named registers of the SHA256 (10_state.md R30, R31). -/
inductive ShaReg where
  | csr | wdata | sum0 | sum1 | sum2 | sum3 | sum4 | sum5 | sum6 | sum7
  deriving DecidableEq, Repr

/-- The named registers of the ROSC (10_state.md R36). -/
inductive RoscReg where
  | ctrl | freqa | freqb | dormant | div | phase | status | randombit
  deriving DecidableEq, Repr

/-- The named registers of the RESETS (10_state.md R41). -/
inductive ResetsReg where
  | reset
  deriving DecidableEq, Repr

/-- A data access: a load, or a store with its 32-bit value (R80: `kind` 0 and 1). -/
inductive DataAccess where
  | read
  | write (v : Word)
  deriving DecidableEq, Repr

/-- The access kind of a transaction (R80): 0 read and 1 write, 2 fetch, 3 reserved. Only a write has a value. -/
inductive BusAccess where
  | data (acc : DataAccess)
  | fetch
  | reserved
  deriving DecidableEq, Repr

/-- The transaction record `T = {kind, size, addr, value}` (R80); `size` is the size code. -/
structure Transaction where
  access : BusAccess
  size : BitVec 2
  addr : Word
  deriving DecidableEq, Repr

/-- A call of a function of the secret-sharing transform with its argument (R91, R240, R242, R244). -/
inductive HostCall where
  | splitKey (key : List Byte)
  | splitIV (iv : List Byte)
  | joinKey (shares : List Byte)
  deriving DecidableEq, Repr

/-- One operation of the block: a bus transaction or a host call (R2). -/
inductive Operation where
  | bus (t : Transaction)
  | host (c : HostCall)
  deriving DecidableEq, Repr

/-- A fault the CPU engine reports of itself (R262, R264). -/
inductive EngineFault where
  | illegalInstruction
  | internalError
  deriving DecidableEq, Repr

/-- What the outside presents to one step: an operation, or the CPU engine's report of a fault of its own (R262). -/
inductive Request where
  | op (o : Operation)
  | engineFault (e : EngineFault)
  deriving DecidableEq, Repr

/-- The instructions of the block, in the order of spec/opcode_table.json. `v` is a write's value, `off` an offset in the
region, `a` an address. -/
inductive Instr where
  /-- TRNG.RNG_IMR.R: RNG_IMR read (R104). -/
  | trngRngImrR
  /-- TRNG.RNG_IMR.W: RNG_IMR write (R105). -/
  | trngRngImrW (v : Word)
  /-- TRNG.RNG_ISR.R: RNG_ISR read (R106). -/
  | trngRngIsrR
  /-- TRNG.RNG_ISR.W: RNG_ISR write (R107). -/
  | trngRngIsrW (v : Word)
  /-- TRNG.RNG_ICR.R: RNG_ICR read (R109). -/
  | trngRngIcrR
  /-- TRNG.RNG_ICR.W: RNG_ICR write (R108). -/
  | trngRngIcrW (v : Word)
  /-- TRNG.TRNG_CONFIG.R: TRNG_CONFIG read (R110). -/
  | trngTrngConfigR
  /-- TRNG.TRNG_CONFIG.W: TRNG_CONFIG write (R111). -/
  | trngTrngConfigW (v : Word)
  /-- TRNG.TRNG_VALID.R: TRNG_VALID read (R112). -/
  | trngTrngValidR
  /-- TRNG.TRNG_VALID.W: TRNG_VALID write (R113). -/
  | trngTrngValidW (v : Word)
  /-- TRNG.EHR_DATA0.R: EHR_DATA0 read (R114). -/
  | trngEhrData0R
  /-- TRNG.EHR_DATA0.W: EHR_DATA0 write (R115). -/
  | trngEhrData0W (v : Word)
  /-- TRNG.EHR_DATA1.R: EHR_DATA1 read (R114). -/
  | trngEhrData1R
  /-- TRNG.EHR_DATA1.W: EHR_DATA1 write (R115). -/
  | trngEhrData1W (v : Word)
  /-- TRNG.EHR_DATA2.R: EHR_DATA2 read (R114). -/
  | trngEhrData2R
  /-- TRNG.EHR_DATA2.W: EHR_DATA2 write (R115). -/
  | trngEhrData2W (v : Word)
  /-- TRNG.EHR_DATA3.R: EHR_DATA3 read (R114). -/
  | trngEhrData3R
  /-- TRNG.EHR_DATA3.W: EHR_DATA3 write (R115). -/
  | trngEhrData3W (v : Word)
  /-- TRNG.EHR_DATA4.R: EHR_DATA4 read (R114). -/
  | trngEhrData4R
  /-- TRNG.EHR_DATA4.W: EHR_DATA4 write (R115). -/
  | trngEhrData4W (v : Word)
  /-- TRNG.EHR_DATA5.R: EHR_DATA5 read (R114). -/
  | trngEhrData5R
  /-- TRNG.EHR_DATA5.W: EHR_DATA5 write (R115). -/
  | trngEhrData5W (v : Word)
  /-- TRNG.RND_SOURCE_ENABLE.R: RND_SOURCE_ENABLE read (R117). -/
  | trngRndSourceEnableR
  /-- TRNG.RND_SOURCE_ENABLE.W: RND_SOURCE_ENABLE write (R116). -/
  | trngRndSourceEnableW (v : Word)
  /-- TRNG.SAMPLE_CNT1.R: SAMPLE_CNT1 read (R118). -/
  | trngSampleCnt1R
  /-- TRNG.SAMPLE_CNT1.W: SAMPLE_CNT1 write (R119). -/
  | trngSampleCnt1W (v : Word)
  /-- TRNG.TRNG_DEBUG_CONTROL.R: TRNG_DEBUG_CONTROL read (R120). -/
  | trngTrngDebugControlR
  /-- TRNG.TRNG_DEBUG_CONTROL.W: TRNG_DEBUG_CONTROL write (R121). -/
  | trngTrngDebugControlW (v : Word)
  /-- TRNG.TRNG_SW_RESET.R: TRNG_SW_RESET read (R123). -/
  | trngTrngSwResetR
  /-- TRNG.TRNG_SW_RESET.W: TRNG_SW_RESET write (R122). -/
  | trngTrngSwResetW (v : Word)
  /-- TRNG.TRNG_BUSY.R: TRNG_BUSY read (R124). -/
  | trngTrngBusyR
  /-- TRNG.TRNG_BUSY.W: TRNG_BUSY write (R125). -/
  | trngTrngBusyW (v : Word)
  /-- SHA256.CSR.R: CSR read (R141). -/
  | sha256CsrR
  /-- SHA256.CSR.W: CSR write (R142). -/
  | sha256CsrW (v : Word)
  /-- SHA256.WDATA.R: WDATA read (R145). -/
  | sha256WdataR
  /-- SHA256.WDATA.W: WDATA write (R144). -/
  | sha256WdataW (v : Word)
  /-- SHA256.SUM0.R: SUM0 read (R146). -/
  | sha256Sum0R
  /-- SHA256.SUM0.W: SUM0 write (R147). -/
  | sha256Sum0W (v : Word)
  /-- SHA256.SUM1.R: SUM1 read (R146). -/
  | sha256Sum1R
  /-- SHA256.SUM1.W: SUM1 write (R147). -/
  | sha256Sum1W (v : Word)
  /-- SHA256.SUM2.R: SUM2 read (R146). -/
  | sha256Sum2R
  /-- SHA256.SUM2.W: SUM2 write (R147). -/
  | sha256Sum2W (v : Word)
  /-- SHA256.SUM3.R: SUM3 read (R146). -/
  | sha256Sum3R
  /-- SHA256.SUM3.W: SUM3 write (R147). -/
  | sha256Sum3W (v : Word)
  /-- SHA256.SUM4.R: SUM4 read (R146). -/
  | sha256Sum4R
  /-- SHA256.SUM4.W: SUM4 write (R147). -/
  | sha256Sum4W (v : Word)
  /-- SHA256.SUM5.R: SUM5 read (R146). -/
  | sha256Sum5R
  /-- SHA256.SUM5.W: SUM5 write (R147). -/
  | sha256Sum5W (v : Word)
  /-- SHA256.SUM6.R: SUM6 read (R146). -/
  | sha256Sum6R
  /-- SHA256.SUM6.W: SUM6 write (R147). -/
  | sha256Sum6W (v : Word)
  /-- SHA256.SUM7.R: SUM7 read (R146). -/
  | sha256Sum7R
  /-- SHA256.SUM7.W: SUM7 write (R147). -/
  | sha256Sum7W (v : Word)
  /-- ROSC.CTRL.R: CTRL read (R181). -/
  | roscCtrlR
  /-- ROSC.CTRL.W: CTRL write (R182). -/
  | roscCtrlW (v : Word)
  /-- ROSC.FREQA.R: FREQA read (R183). -/
  | roscFreqaR
  /-- ROSC.FREQA.W: FREQA write (R184). -/
  | roscFreqaW (v : Word)
  /-- ROSC.FREQB.R: FREQB read (R185). -/
  | roscFreqbR
  /-- ROSC.FREQB.W: FREQB write (R186). -/
  | roscFreqbW (v : Word)
  /-- ROSC.DORMANT.R: DORMANT read (R187). -/
  | roscDormantR
  /-- ROSC.DORMANT.W: DORMANT write (R188). -/
  | roscDormantW (v : Word)
  /-- ROSC.DIV.R: DIV read (R189). -/
  | roscDivR
  /-- ROSC.DIV.W: DIV write (R190). -/
  | roscDivW (v : Word)
  /-- ROSC.PHASE.R: PHASE read (R191). -/
  | roscPhaseR
  /-- ROSC.PHASE.W: PHASE write (R192). -/
  | roscPhaseW (v : Word)
  /-- ROSC.STATUS.R: STATUS read (R193). -/
  | roscStatusR
  /-- ROSC.STATUS.W: STATUS write (R194). -/
  | roscStatusW (v : Word)
  /-- ROSC.RANDOMBIT.R: RANDOMBIT read (R195). -/
  | roscRandombitR
  /-- ROSC.RANDOMBIT.W: RANDOMBIT write (R196). -/
  | roscRandombitW (v : Word)
  /-- RESETS.RESET.R: RESET read (R201). -/
  | resetsResetR
  /-- RESETS.RESET.W: RESET write (R202). -/
  | resetsResetW (v : Word)
  /-- RESETS.UNKNOWN.R: a word read at an unknown offset of the RESETS region (R222). -/
  | resetsUnknownR (off : BitVec 12)
  /-- RESETS.UNKNOWN.W: a word write at an unknown offset of the RESETS region (R222). -/
  | resetsUnknownW (off : BitVec 12) (v : Word)
  /-- ROSC.UNKNOWN.R: a word read at an unknown offset of the ROSC region (R222). -/
  | roscUnknownR (off : BitVec 12)
  /-- ROSC.UNKNOWN.W: a word write at an unknown offset of the ROSC region (R222). -/
  | roscUnknownW (off : BitVec 12) (v : Word)
  /-- TRNG.UNKNOWN.R: a word read at an unknown offset of the TRNG region (R222). -/
  | trngUnknownR (off : BitVec 12)
  /-- TRNG.UNKNOWN.W: a word write at an unknown offset of the TRNG region (R222). -/
  | trngUnknownW (off : BitVec 12) (v : Word)
  /-- SHA256.UNKNOWN.R: a word read at an unknown offset of the SHA256 region (R222). -/
  | sha256UnknownR (off : BitVec 12)
  /-- SHA256.UNKNOWN.W: a word write at an unknown offset of the SHA256 region (R222). -/
  | sha256UnknownW (off : BitVec 12) (v : Word)
  /-- WINDOW.UNMAPPED.R: a word read in the window outside every region (R225). -/
  | windowUnmappedR (a : Word)
  /-- WINDOW.UNMAPPED.W: a word write in the window outside every region (R225). -/
  | windowUnmappedW (a : Word) (v : Word)
  /-- REFUSE.FETCH: an instruction fetch from the window, any size code (R226). -/
  | refuseFetch (size : BitVec 2) (a : Word)
  /-- REFUSE.RESERVED_KIND: kind 3 in the window, any size code (R226). -/
  | refuseReservedKind (size : BitVec 2) (a : Word)
  /-- REFUSE.RESERVED_SIZE: a read or write with size code 3 in the window (R226). -/
  | refuseReservedSize (acc : DataAccess) (a : Word)
  /-- REFUSE.SUBWORD: a read or write of one byte, or of two when `half` holds, in the window (R226). -/
  | refuseSubword (acc : DataAccess) (half : Bool) (a : Word)
  /-- REFUSE.MISALIGNED_ODD: a word access in the window with `addr[0] = 1` (R226). -/
  | refuseMisalignedOdd (acc : DataAccess) (a : Word)
  /-- REFUSE.MISALIGNED_HALF: a word access in the window with `addr[1:0] = 2` (R226). -/
  | refuseMisalignedHalf (acc : DataAccess) (a : Word)
  /-- OUTSIDE_WINDOW: any transaction at an address outside the window (R227). -/
  | outsideWindow (t : Transaction)
  /-- SHARE.splitKey: `splitKey(key)` (R240). -/
  | shareSplitKey (key : List Byte)
  /-- SHARE.splitIV: `splitIV(iv)` (R242). -/
  | shareSplitIV (iv : List Byte)
  /-- SHARE.joinKey: `joinKey(shares)` (R244). -/
  | shareJoinKey (shares : List Byte)
  deriving DecidableEq, Repr

end Sys2Proof
end

