-- ==== Sys2Proof/Machine/AddressMap.lean ====
section
/-! DEFINITION. The address map: the window and the region table (spec/20_memory.md R60 to R62), the register maps
(spec/10_state.md R25, R30, R31, R36, R41) and the decoding of an address into region and offset (spec/44_dispatcher.md R220,
R221). -/

namespace Sys2Proof

/-- `REGION_SIZE` (R60). -/
def regionSize : Nat := 0x1000

/-- `BASE_P` (R60). -/
def Periph.base : Periph → Word
  | .resets => 0x40020000#32
  | .rosc => 0x400E8000#32
  | .trng => 0x400F0000#32
  | .sha => 0x400F8000#32

/-- The address lies in `MMIO_WINDOW` = [0x40000000, 0x40100000) (R62). -/
def inWindow (a : Word) : Bool := decide (0x40000000 ≤ a.toNat ∧ a.toNat < 0x40100000)

/-- `addr[1:0] = 0` (R65). -/
def aligned (a : Word) : Bool := !a.getLsbD 0 && !a.getLsbD 1

/-- The address lies in the region of the peripheral: `BASE_P ≤ a < BASE_P + REGION_SIZE` (R220). -/
def Periph.holds (p : Periph) (a : Word) : Bool := decide (p.base.toNat ≤ a.toNat ∧ a.toNat < p.base.toNat + regionSize)

/-- The region of an address, if it has one (R220). -/
def regionOf (a : Word) : Option Periph := [.resets, .rosc, .trng, .sha].find? (·.holds a)

/-- The offset of an address in a region: `a − BASE_P`, below 0x1000 (R83, R221). -/
def Periph.offsetOf (p : Periph) (a : Word) : BitVec 12 := (a - p.base).setWidth 12

/-- The address of an offset of a region: the inverse of `offsetOf` (R83). -/
def Periph.address (p : Periph) (off : BitVec 12) : Word := p.base + off.setWidth 32

/-- The TRNG register map: the offset of each register (10_state.md R25). -/
def TrngReg.offset : TrngReg → BitVec 12
  | .rngImr => 0x100#12
  | .rngIsr => 0x104#12
  | .rngIcr => 0x108#12
  | .trngConfig => 0x10C#12
  | .trngValid => 0x110#12
  | .ehrData0 => 0x114#12
  | .ehrData1 => 0x118#12
  | .ehrData2 => 0x11C#12
  | .ehrData3 => 0x120#12
  | .ehrData4 => 0x124#12
  | .ehrData5 => 0x128#12
  | .rndSourceEnable => 0x12C#12
  | .sampleCnt1 => 0x130#12
  | .trngDebugControl => 0x138#12
  | .trngSwReset => 0x140#12
  | .trngBusy => 0x1B8#12

/-- Every TRNG register. -/
def TrngReg.all : List TrngReg :=
  [.rngImr, .rngIsr, .rngIcr, .trngConfig, .trngValid, .ehrData0, .ehrData1, .ehrData2,
   .ehrData3, .ehrData4, .ehrData5, .rndSourceEnable, .sampleCnt1, .trngDebugControl, .trngSwReset, .trngBusy]

/-- The TRNG register at an offset, if the offset is known (R86). -/
def TrngReg.ofOffset (off : BitVec 12) : Option TrngReg := TrngReg.all.find? fun r => r.offset == off

/-- The SHA256 register map: the offset of each register (10_state.md R30, R31). -/
def ShaReg.offset : ShaReg → BitVec 12
  | .csr => 0x000#12
  | .wdata => 0x004#12
  | .sum0 => 0x008#12
  | .sum1 => 0x00C#12
  | .sum2 => 0x010#12
  | .sum3 => 0x014#12
  | .sum4 => 0x018#12
  | .sum5 => 0x01C#12
  | .sum6 => 0x020#12
  | .sum7 => 0x024#12

/-- Every SHA256 register. -/
def ShaReg.all : List ShaReg :=
  [.csr, .wdata, .sum0, .sum1, .sum2, .sum3, .sum4, .sum5, .sum6, .sum7]

/-- The SHA256 register at an offset, if the offset is known (R86). -/
def ShaReg.ofOffset (off : BitVec 12) : Option ShaReg := ShaReg.all.find? fun r => r.offset == off

/-- The ROSC register map: the offset of each register (10_state.md R36). -/
def RoscReg.offset : RoscReg → BitVec 12
  | .ctrl => 0x000#12
  | .freqa => 0x004#12
  | .freqb => 0x008#12
  | .dormant => 0x010#12
  | .div => 0x014#12
  | .phase => 0x018#12
  | .status => 0x01C#12
  | .randombit => 0x020#12

/-- Every ROSC register. -/
def RoscReg.all : List RoscReg :=
  [.ctrl, .freqa, .freqb, .dormant, .div, .phase, .status, .randombit]

/-- The ROSC register at an offset, if the offset is known (R86). -/
def RoscReg.ofOffset (off : BitVec 12) : Option RoscReg := RoscReg.all.find? fun r => r.offset == off

/-- The RESETS register map: the offset of each register (10_state.md R41). -/
def ResetsReg.offset : ResetsReg → BitVec 12
  | .reset => 0x000#12

/-- Every RESETS register. -/
def ResetsReg.all : List ResetsReg :=
  [.reset]

/-- The RESETS register at an offset, if the offset is known (R86). -/
def ResetsReg.ofOffset (off : BitVec 12) : Option ResetsReg := ResetsReg.all.find? fun r => r.offset == off

/-- A known offset of a peripheral: one listed in its register map (R86). -/
def Periph.known (p : Periph) (off : BitVec 12) : Bool :=
  match p with
  | .trng => (TrngReg.ofOffset off).isSome
  | .sha => (ShaReg.ofOffset off).isSome
  | .rosc => (RoscReg.ofOffset off).isSome
  | .resets => (ResetsReg.ofOffset off).isSome

/-- An unknown offset of a peripheral: word-aligned and not in its register map (R86, R222). -/
def Periph.unknown (p : Periph) (off : BitVec 12) : Bool := !off.getLsbD 0 && !off.getLsbD 1 && !p.known off

end Sys2Proof
end

