-- ==== Sys2Proof/WellFormed.lean ====
section
/-! DEFINITION. Well-formed instructions: those the decoder can give (spec/30_encoding.md R84, R86, R87). A named register's
access has no operand that could be ill-formed; an unknown offset, a window address, a refused access and an access outside the
window are well-formed where their row of spec/opcode_table.json selects them. -/

namespace Sys2Proof

/-- The instruction is one its own row selects. -/
def Instr.wf : Instr → Bool
  | .trngRngImrR => true
  | .trngRngImrW _ => true
  | .trngRngIsrR => true
  | .trngRngIsrW _ => true
  | .trngRngIcrR => true
  | .trngRngIcrW _ => true
  | .trngTrngConfigR => true
  | .trngTrngConfigW _ => true
  | .trngTrngValidR => true
  | .trngTrngValidW _ => true
  | .trngEhrData0R => true
  | .trngEhrData0W _ => true
  | .trngEhrData1R => true
  | .trngEhrData1W _ => true
  | .trngEhrData2R => true
  | .trngEhrData2W _ => true
  | .trngEhrData3R => true
  | .trngEhrData3W _ => true
  | .trngEhrData4R => true
  | .trngEhrData4W _ => true
  | .trngEhrData5R => true
  | .trngEhrData5W _ => true
  | .trngRndSourceEnableR => true
  | .trngRndSourceEnableW _ => true
  | .trngSampleCnt1R => true
  | .trngSampleCnt1W _ => true
  | .trngTrngDebugControlR => true
  | .trngTrngDebugControlW _ => true
  | .trngTrngSwResetR => true
  | .trngTrngSwResetW _ => true
  | .trngTrngBusyR => true
  | .trngTrngBusyW _ => true
  | .sha256CsrR => true
  | .sha256CsrW _ => true
  | .sha256WdataR => true
  | .sha256WdataW _ => true
  | .sha256Sum0R => true
  | .sha256Sum0W _ => true
  | .sha256Sum1R => true
  | .sha256Sum1W _ => true
  | .sha256Sum2R => true
  | .sha256Sum2W _ => true
  | .sha256Sum3R => true
  | .sha256Sum3W _ => true
  | .sha256Sum4R => true
  | .sha256Sum4W _ => true
  | .sha256Sum5R => true
  | .sha256Sum5W _ => true
  | .sha256Sum6R => true
  | .sha256Sum6W _ => true
  | .sha256Sum7R => true
  | .sha256Sum7W _ => true
  | .roscCtrlR => true
  | .roscCtrlW _ => true
  | .roscFreqaR => true
  | .roscFreqaW _ => true
  | .roscFreqbR => true
  | .roscFreqbW _ => true
  | .roscDormantR => true
  | .roscDormantW _ => true
  | .roscDivR => true
  | .roscDivW _ => true
  | .roscPhaseR => true
  | .roscPhaseW _ => true
  | .roscStatusR => true
  | .roscStatusW _ => true
  | .roscRandombitR => true
  | .roscRandombitW _ => true
  | .resetsResetR => true
  | .resetsResetW _ => true
  | .resetsUnknownR off => Periph.resets.unknown off
  | .resetsUnknownW off _ => Periph.resets.unknown off
  | .roscUnknownR off => Periph.rosc.unknown off
  | .roscUnknownW off _ => Periph.rosc.unknown off
  | .trngUnknownR off => Periph.trng.unknown off
  | .trngUnknownW off _ => Periph.trng.unknown off
  | .sha256UnknownR off => Periph.sha.unknown off
  | .sha256UnknownW off _ => Periph.sha.unknown off
  | .windowUnmappedR a => inWindow a && aligned a && (regionOf a).isNone
  | .windowUnmappedW a _ => inWindow a && aligned a && (regionOf a).isNone
  | .refuseFetch _ a => inWindow a
  | .refuseReservedKind _ a => inWindow a
  | .refuseReservedSize _ a => inWindow a
  | .refuseSubword _ _ a => inWindow a
  | .refuseMisalignedOdd _ a => inWindow a && a.getLsbD 0
  | .refuseMisalignedHalf _ a => inWindow a && !a.getLsbD 0 && a.getLsbD 1
  | .outsideWindow t => !inWindow t.addr
  | .shareSplitKey _ => true
  | .shareSplitIV _ => true
  | .shareJoinKey _ => true

end Sys2Proof
end

