-- ==== Sys2Proof/Decode.lean ====
section
/-! DEFINITION. The decoder of a transaction (spec/30_encoding.md R81 to R88, spec/44_dispatcher.md R220 to R227), the encoder
written from the same tables, the byte form of a transaction, and the rows of spec/opcode_table.json with the lookup by priority
(R84). -/

namespace Sys2Proof

/-- The kind code of a transaction (R80). -/
def Transaction.kindCode (t : Transaction) : BitVec 2 :=
  match t.access with
  | .data .read => 0#2
  | .data (.write _) => 1#2
  | .fetch => 2#2
  | .reserved => 3#2

/-- The transaction key `{kind[1:0], size[1:0], addr[31:0]}` (R81). -/
def Transaction.key (t : Transaction) : BitVec 36 := t.kindCode ++ t.size ++ t.addr

/-- The register of the TRNG region an offset selects, or its unknown-offset row (R83, R86). -/
def decodeTrng (off : BitVec 12) (acc : DataAccess) : Instr :=
  match TrngReg.ofOffset off, acc with
  | some .rngImr, .read => .trngRngImrR
  | some .rngImr, .write v => .trngRngImrW v
  | some .rngIsr, .read => .trngRngIsrR
  | some .rngIsr, .write v => .trngRngIsrW v
  | some .rngIcr, .read => .trngRngIcrR
  | some .rngIcr, .write v => .trngRngIcrW v
  | some .trngConfig, .read => .trngTrngConfigR
  | some .trngConfig, .write v => .trngTrngConfigW v
  | some .trngValid, .read => .trngTrngValidR
  | some .trngValid, .write v => .trngTrngValidW v
  | some .ehrData0, .read => .trngEhrData0R
  | some .ehrData0, .write v => .trngEhrData0W v
  | some .ehrData1, .read => .trngEhrData1R
  | some .ehrData1, .write v => .trngEhrData1W v
  | some .ehrData2, .read => .trngEhrData2R
  | some .ehrData2, .write v => .trngEhrData2W v
  | some .ehrData3, .read => .trngEhrData3R
  | some .ehrData3, .write v => .trngEhrData3W v
  | some .ehrData4, .read => .trngEhrData4R
  | some .ehrData4, .write v => .trngEhrData4W v
  | some .ehrData5, .read => .trngEhrData5R
  | some .ehrData5, .write v => .trngEhrData5W v
  | some .rndSourceEnable, .read => .trngRndSourceEnableR
  | some .rndSourceEnable, .write v => .trngRndSourceEnableW v
  | some .sampleCnt1, .read => .trngSampleCnt1R
  | some .sampleCnt1, .write v => .trngSampleCnt1W v
  | some .trngDebugControl, .read => .trngTrngDebugControlR
  | some .trngDebugControl, .write v => .trngTrngDebugControlW v
  | some .trngSwReset, .read => .trngTrngSwResetR
  | some .trngSwReset, .write v => .trngTrngSwResetW v
  | some .trngBusy, .read => .trngTrngBusyR
  | some .trngBusy, .write v => .trngTrngBusyW v
  | none, .read => .trngUnknownR off
  | none, .write v => .trngUnknownW off v

/-- The register of the SHA256 region an offset selects, or its unknown-offset row (R83, R86). -/
def decodeSha (off : BitVec 12) (acc : DataAccess) : Instr :=
  match ShaReg.ofOffset off, acc with
  | some .csr, .read => .sha256CsrR
  | some .csr, .write v => .sha256CsrW v
  | some .wdata, .read => .sha256WdataR
  | some .wdata, .write v => .sha256WdataW v
  | some .sum0, .read => .sha256Sum0R
  | some .sum0, .write v => .sha256Sum0W v
  | some .sum1, .read => .sha256Sum1R
  | some .sum1, .write v => .sha256Sum1W v
  | some .sum2, .read => .sha256Sum2R
  | some .sum2, .write v => .sha256Sum2W v
  | some .sum3, .read => .sha256Sum3R
  | some .sum3, .write v => .sha256Sum3W v
  | some .sum4, .read => .sha256Sum4R
  | some .sum4, .write v => .sha256Sum4W v
  | some .sum5, .read => .sha256Sum5R
  | some .sum5, .write v => .sha256Sum5W v
  | some .sum6, .read => .sha256Sum6R
  | some .sum6, .write v => .sha256Sum6W v
  | some .sum7, .read => .sha256Sum7R
  | some .sum7, .write v => .sha256Sum7W v
  | none, .read => .sha256UnknownR off
  | none, .write v => .sha256UnknownW off v

/-- The register of the ROSC region an offset selects, or its unknown-offset row (R83, R86). -/
def decodeRosc (off : BitVec 12) (acc : DataAccess) : Instr :=
  match RoscReg.ofOffset off, acc with
  | some .ctrl, .read => .roscCtrlR
  | some .ctrl, .write v => .roscCtrlW v
  | some .freqa, .read => .roscFreqaR
  | some .freqa, .write v => .roscFreqaW v
  | some .freqb, .read => .roscFreqbR
  | some .freqb, .write v => .roscFreqbW v
  | some .dormant, .read => .roscDormantR
  | some .dormant, .write v => .roscDormantW v
  | some .div, .read => .roscDivR
  | some .div, .write v => .roscDivW v
  | some .phase, .read => .roscPhaseR
  | some .phase, .write v => .roscPhaseW v
  | some .status, .read => .roscStatusR
  | some .status, .write v => .roscStatusW v
  | some .randombit, .read => .roscRandombitR
  | some .randombit, .write v => .roscRandombitW v
  | none, .read => .roscUnknownR off
  | none, .write v => .roscUnknownW off v

/-- The register of the RESETS region an offset selects, or its unknown-offset row (R83, R86). -/
def decodeResets (off : BitVec 12) (acc : DataAccess) : Instr :=
  match ResetsReg.ofOffset off, acc with
  | some .reset, .read => .resetsResetR
  | some .reset, .write v => .resetsResetW v
  | none, .read => .resetsUnknownR off
  | none, .write v => .resetsUnknownW off v

/-- A word-aligned word access in the window: the region and the offset are taken from the address alone (R83, R223, R224). -/
def decodeAdmitted (acc : DataAccess) (a : Word) : Instr :=
  match regionOf a, acc with
  | some .trng, _ => decodeTrng (Periph.trng.offsetOf a) acc
  | some .sha, _ => decodeSha (Periph.sha.offsetOf a) acc
  | some .rosc, _ => decodeRosc (Periph.rosc.offsetOf a) acc
  | some .resets, _ => decodeResets (Periph.resets.offsetOf a) acc
  | none, .read => .windowUnmappedR a
  | none, .write v => .windowUnmappedW a v

/-- A read or write in the window: the size and alignment checks of R226, in its order, then the registers. -/
def decodeData (acc : DataAccess) (size : BitVec 2) (a : Word) : Instr :=
  if size = 3#2 then .refuseReservedSize acc a
  else if size ≠ 2#2 then .refuseSubword acc (decide (size = 1#2)) a
  else if a.getLsbD 0 then .refuseMisalignedOdd acc a
  else if a.getLsbD 1 then .refuseMisalignedHalf acc a
  else decodeAdmitted acc a

/-- The instruction a transaction is (R82 to R87); the window first, then the checks in the order of R226 and R265. -/
def decode (t : Transaction) : Instr :=
  if inWindow t.addr then
    match t.access with
    | .fetch => .refuseFetch t.size t.addr
    | .reserved => .refuseReservedKind t.size t.addr
    | .data acc => decodeData acc t.size t.addr
  else .outsideWindow t

/-- The instruction an operation is: a transaction by its key, a host call by its function (R85). -/
def decodeOperation : Operation → Instr
  | .bus t => decode t
  | .host (.splitKey key) => .shareSplitKey key
  | .host (.splitIV iv) => .shareSplitIV iv
  | .host (.joinKey shares) => .shareJoinKey shares

/-- Why a byte string is no transaction. -/
inductive DecodeError where
  /-- The bytes end before the transaction does. -/
  | truncated
  /-- Bits 39:36 above the 36-bit key are not 0. -/
  | keyTooWide
  deriving DecidableEq, Repr

/-- A transaction from bytes: its key in five bytes, the least significant first, then a write's value in four
(notes/assumptions/17.md); the bytes left over are answered with it. -/
def Transaction.ofBytes : List Byte → Except DecodeError (Transaction × List Byte)
  | b0 :: b1 :: b2 :: b3 :: b4 :: rest =>
    if b4.extractLsb' 4 4 ≠ 0#4 then .error .keyTooWide
    else
      let size := b4.extractLsb' 0 2
      let addr := Machine.le32 b0 b1 b2 b3
      if b4.extractLsb' 2 2 = 0#2 then .ok (⟨.data .read, size, addr⟩, rest)
      else if b4.extractLsb' 2 2 = 1#2 then
        match rest with
        | v0 :: v1 :: v2 :: v3 :: rest' => .ok (⟨.data (.write (Machine.le32 v0 v1 v2 v3)), size, addr⟩, rest')
        | _ => .error .truncated
      else if b4.extractLsb' 2 2 = 2#2 then .ok (⟨.fetch, size, addr⟩, rest)
      else .ok (⟨.reserved, size, addr⟩, rest)
  | _ => .error .truncated

/-- The bytes of a transaction, in the layout `ofBytes` reads. -/
def Transaction.toBytes (t : Transaction) : List Byte :=
  Machine.wordBytes t.addr ++ [0#4 ++ t.kindCode ++ t.size] ++
    match t.access with
    | .data (.write v) => Machine.wordBytes v
    | _ => []

/-- The instruction at the head of a byte string and the bytes after it. -/
def decodeBytes (bs : List Byte) : Except DecodeError (Instr × List Byte) :=
  match Transaction.ofBytes bs with
  | .ok (t, rest) => .ok (decode t, rest)
  | .error e => .error e

/-- The bytes of a word of spec/opcode_table.json: `nbits` bits from bit 0 up, then zeros up to the longest transaction. -/
def tableBytes (nbits w : Nat) : List Byte :=
  (List.range (nbits / 8)).map (fun j => BitVec.ofNat 8 (w >>> (8 * j))) ++ List.replicate 9 0#8

/-- The transaction whose bits are a word of the table, if it is one. -/
def tableTransaction (nbits w : Nat) : Option Transaction :=
  match Transaction.ofBytes (tableBytes nbits w) with
  | .ok (t, _) => some t
  | .error _ => none

/-- The instruction the decoder reads from a word of the table. -/
def decodeTableWord (nbits w : Nat) : Option Instr :=
  match decodeBytes (tableBytes nbits w) with
  | .ok (i, _) => some i
  | .error _ => none

/-- A word access at an address. -/
def wordAccess (acc : DataAccess) (a : Word) : Operation := .bus ⟨.data acc, 2#2, a⟩

/-- The operation an instruction is written as: kind, size code, address and value from the same maps (R80, R85). -/
def encode : Instr → Operation
  | .trngRngImrR => wordAccess .read (Periph.trng.address TrngReg.rngImr.offset)
  | .trngRngImrW v => wordAccess (.write v) (Periph.trng.address TrngReg.rngImr.offset)
  | .trngRngIsrR => wordAccess .read (Periph.trng.address TrngReg.rngIsr.offset)
  | .trngRngIsrW v => wordAccess (.write v) (Periph.trng.address TrngReg.rngIsr.offset)
  | .trngRngIcrR => wordAccess .read (Periph.trng.address TrngReg.rngIcr.offset)
  | .trngRngIcrW v => wordAccess (.write v) (Periph.trng.address TrngReg.rngIcr.offset)
  | .trngTrngConfigR => wordAccess .read (Periph.trng.address TrngReg.trngConfig.offset)
  | .trngTrngConfigW v => wordAccess (.write v) (Periph.trng.address TrngReg.trngConfig.offset)
  | .trngTrngValidR => wordAccess .read (Periph.trng.address TrngReg.trngValid.offset)
  | .trngTrngValidW v => wordAccess (.write v) (Periph.trng.address TrngReg.trngValid.offset)
  | .trngEhrData0R => wordAccess .read (Periph.trng.address TrngReg.ehrData0.offset)
  | .trngEhrData0W v => wordAccess (.write v) (Periph.trng.address TrngReg.ehrData0.offset)
  | .trngEhrData1R => wordAccess .read (Periph.trng.address TrngReg.ehrData1.offset)
  | .trngEhrData1W v => wordAccess (.write v) (Periph.trng.address TrngReg.ehrData1.offset)
  | .trngEhrData2R => wordAccess .read (Periph.trng.address TrngReg.ehrData2.offset)
  | .trngEhrData2W v => wordAccess (.write v) (Periph.trng.address TrngReg.ehrData2.offset)
  | .trngEhrData3R => wordAccess .read (Periph.trng.address TrngReg.ehrData3.offset)
  | .trngEhrData3W v => wordAccess (.write v) (Periph.trng.address TrngReg.ehrData3.offset)
  | .trngEhrData4R => wordAccess .read (Periph.trng.address TrngReg.ehrData4.offset)
  | .trngEhrData4W v => wordAccess (.write v) (Periph.trng.address TrngReg.ehrData4.offset)
  | .trngEhrData5R => wordAccess .read (Periph.trng.address TrngReg.ehrData5.offset)
  | .trngEhrData5W v => wordAccess (.write v) (Periph.trng.address TrngReg.ehrData5.offset)
  | .trngRndSourceEnableR => wordAccess .read (Periph.trng.address TrngReg.rndSourceEnable.offset)
  | .trngRndSourceEnableW v => wordAccess (.write v) (Periph.trng.address TrngReg.rndSourceEnable.offset)
  | .trngSampleCnt1R => wordAccess .read (Periph.trng.address TrngReg.sampleCnt1.offset)
  | .trngSampleCnt1W v => wordAccess (.write v) (Periph.trng.address TrngReg.sampleCnt1.offset)
  | .trngTrngDebugControlR => wordAccess .read (Periph.trng.address TrngReg.trngDebugControl.offset)
  | .trngTrngDebugControlW v => wordAccess (.write v) (Periph.trng.address TrngReg.trngDebugControl.offset)
  | .trngTrngSwResetR => wordAccess .read (Periph.trng.address TrngReg.trngSwReset.offset)
  | .trngTrngSwResetW v => wordAccess (.write v) (Periph.trng.address TrngReg.trngSwReset.offset)
  | .trngTrngBusyR => wordAccess .read (Periph.trng.address TrngReg.trngBusy.offset)
  | .trngTrngBusyW v => wordAccess (.write v) (Periph.trng.address TrngReg.trngBusy.offset)
  | .sha256CsrR => wordAccess .read (Periph.sha.address ShaReg.csr.offset)
  | .sha256CsrW v => wordAccess (.write v) (Periph.sha.address ShaReg.csr.offset)
  | .sha256WdataR => wordAccess .read (Periph.sha.address ShaReg.wdata.offset)
  | .sha256WdataW v => wordAccess (.write v) (Periph.sha.address ShaReg.wdata.offset)
  | .sha256Sum0R => wordAccess .read (Periph.sha.address ShaReg.sum0.offset)
  | .sha256Sum0W v => wordAccess (.write v) (Periph.sha.address ShaReg.sum0.offset)
  | .sha256Sum1R => wordAccess .read (Periph.sha.address ShaReg.sum1.offset)
  | .sha256Sum1W v => wordAccess (.write v) (Periph.sha.address ShaReg.sum1.offset)
  | .sha256Sum2R => wordAccess .read (Periph.sha.address ShaReg.sum2.offset)
  | .sha256Sum2W v => wordAccess (.write v) (Periph.sha.address ShaReg.sum2.offset)
  | .sha256Sum3R => wordAccess .read (Periph.sha.address ShaReg.sum3.offset)
  | .sha256Sum3W v => wordAccess (.write v) (Periph.sha.address ShaReg.sum3.offset)
  | .sha256Sum4R => wordAccess .read (Periph.sha.address ShaReg.sum4.offset)
  | .sha256Sum4W v => wordAccess (.write v) (Periph.sha.address ShaReg.sum4.offset)
  | .sha256Sum5R => wordAccess .read (Periph.sha.address ShaReg.sum5.offset)
  | .sha256Sum5W v => wordAccess (.write v) (Periph.sha.address ShaReg.sum5.offset)
  | .sha256Sum6R => wordAccess .read (Periph.sha.address ShaReg.sum6.offset)
  | .sha256Sum6W v => wordAccess (.write v) (Periph.sha.address ShaReg.sum6.offset)
  | .sha256Sum7R => wordAccess .read (Periph.sha.address ShaReg.sum7.offset)
  | .sha256Sum7W v => wordAccess (.write v) (Periph.sha.address ShaReg.sum7.offset)
  | .roscCtrlR => wordAccess .read (Periph.rosc.address RoscReg.ctrl.offset)
  | .roscCtrlW v => wordAccess (.write v) (Periph.rosc.address RoscReg.ctrl.offset)
  | .roscFreqaR => wordAccess .read (Periph.rosc.address RoscReg.freqa.offset)
  | .roscFreqaW v => wordAccess (.write v) (Periph.rosc.address RoscReg.freqa.offset)
  | .roscFreqbR => wordAccess .read (Periph.rosc.address RoscReg.freqb.offset)
  | .roscFreqbW v => wordAccess (.write v) (Periph.rosc.address RoscReg.freqb.offset)
  | .roscDormantR => wordAccess .read (Periph.rosc.address RoscReg.dormant.offset)
  | .roscDormantW v => wordAccess (.write v) (Periph.rosc.address RoscReg.dormant.offset)
  | .roscDivR => wordAccess .read (Periph.rosc.address RoscReg.div.offset)
  | .roscDivW v => wordAccess (.write v) (Periph.rosc.address RoscReg.div.offset)
  | .roscPhaseR => wordAccess .read (Periph.rosc.address RoscReg.phase.offset)
  | .roscPhaseW v => wordAccess (.write v) (Periph.rosc.address RoscReg.phase.offset)
  | .roscStatusR => wordAccess .read (Periph.rosc.address RoscReg.status.offset)
  | .roscStatusW v => wordAccess (.write v) (Periph.rosc.address RoscReg.status.offset)
  | .roscRandombitR => wordAccess .read (Periph.rosc.address RoscReg.randombit.offset)
  | .roscRandombitW v => wordAccess (.write v) (Periph.rosc.address RoscReg.randombit.offset)
  | .resetsResetR => wordAccess .read (Periph.resets.address ResetsReg.reset.offset)
  | .resetsResetW v => wordAccess (.write v) (Periph.resets.address ResetsReg.reset.offset)
  | .resetsUnknownR off => wordAccess .read (Periph.resets.address off)
  | .resetsUnknownW off v => wordAccess (.write v) (Periph.resets.address off)
  | .roscUnknownR off => wordAccess .read (Periph.rosc.address off)
  | .roscUnknownW off v => wordAccess (.write v) (Periph.rosc.address off)
  | .trngUnknownR off => wordAccess .read (Periph.trng.address off)
  | .trngUnknownW off v => wordAccess (.write v) (Periph.trng.address off)
  | .sha256UnknownR off => wordAccess .read (Periph.sha.address off)
  | .sha256UnknownW off v => wordAccess (.write v) (Periph.sha.address off)
  | .windowUnmappedR a => wordAccess .read a
  | .windowUnmappedW a v => wordAccess (.write v) a
  | .refuseFetch size a => .bus ⟨.fetch, size, a⟩
  | .refuseReservedKind size a => .bus ⟨.reserved, size, a⟩
  | .refuseReservedSize acc a => .bus ⟨.data acc, 3#2, a⟩
  | .refuseSubword acc half a => .bus ⟨.data acc, if half then 1#2 else 0#2, a⟩
  | .refuseMisalignedOdd acc a => wordAccess acc a
  | .refuseMisalignedHalf acc a => wordAccess acc a
  | .outsideWindow t => .bus t
  | .shareSplitKey key => .host (.splitKey key)
  | .shareSplitIV iv => .host (.splitIV iv)
  | .shareJoinKey shares => .host (.joinKey shares)

/-- The mnemonic of an instruction, as spec/opcode_table.json spells it. -/
def Instr.mnemonic : Instr → String
  | .trngRngImrR => "TRNG.RNG_IMR.R"
  | .trngRngImrW _ => "TRNG.RNG_IMR.W"
  | .trngRngIsrR => "TRNG.RNG_ISR.R"
  | .trngRngIsrW _ => "TRNG.RNG_ISR.W"
  | .trngRngIcrR => "TRNG.RNG_ICR.R"
  | .trngRngIcrW _ => "TRNG.RNG_ICR.W"
  | .trngTrngConfigR => "TRNG.TRNG_CONFIG.R"
  | .trngTrngConfigW _ => "TRNG.TRNG_CONFIG.W"
  | .trngTrngValidR => "TRNG.TRNG_VALID.R"
  | .trngTrngValidW _ => "TRNG.TRNG_VALID.W"
  | .trngEhrData0R => "TRNG.EHR_DATA0.R"
  | .trngEhrData0W _ => "TRNG.EHR_DATA0.W"
  | .trngEhrData1R => "TRNG.EHR_DATA1.R"
  | .trngEhrData1W _ => "TRNG.EHR_DATA1.W"
  | .trngEhrData2R => "TRNG.EHR_DATA2.R"
  | .trngEhrData2W _ => "TRNG.EHR_DATA2.W"
  | .trngEhrData3R => "TRNG.EHR_DATA3.R"
  | .trngEhrData3W _ => "TRNG.EHR_DATA3.W"
  | .trngEhrData4R => "TRNG.EHR_DATA4.R"
  | .trngEhrData4W _ => "TRNG.EHR_DATA4.W"
  | .trngEhrData5R => "TRNG.EHR_DATA5.R"
  | .trngEhrData5W _ => "TRNG.EHR_DATA5.W"
  | .trngRndSourceEnableR => "TRNG.RND_SOURCE_ENABLE.R"
  | .trngRndSourceEnableW _ => "TRNG.RND_SOURCE_ENABLE.W"
  | .trngSampleCnt1R => "TRNG.SAMPLE_CNT1.R"
  | .trngSampleCnt1W _ => "TRNG.SAMPLE_CNT1.W"
  | .trngTrngDebugControlR => "TRNG.TRNG_DEBUG_CONTROL.R"
  | .trngTrngDebugControlW _ => "TRNG.TRNG_DEBUG_CONTROL.W"
  | .trngTrngSwResetR => "TRNG.TRNG_SW_RESET.R"
  | .trngTrngSwResetW _ => "TRNG.TRNG_SW_RESET.W"
  | .trngTrngBusyR => "TRNG.TRNG_BUSY.R"
  | .trngTrngBusyW _ => "TRNG.TRNG_BUSY.W"
  | .sha256CsrR => "SHA256.CSR.R"
  | .sha256CsrW _ => "SHA256.CSR.W"
  | .sha256WdataR => "SHA256.WDATA.R"
  | .sha256WdataW _ => "SHA256.WDATA.W"
  | .sha256Sum0R => "SHA256.SUM0.R"
  | .sha256Sum0W _ => "SHA256.SUM0.W"
  | .sha256Sum1R => "SHA256.SUM1.R"
  | .sha256Sum1W _ => "SHA256.SUM1.W"
  | .sha256Sum2R => "SHA256.SUM2.R"
  | .sha256Sum2W _ => "SHA256.SUM2.W"
  | .sha256Sum3R => "SHA256.SUM3.R"
  | .sha256Sum3W _ => "SHA256.SUM3.W"
  | .sha256Sum4R => "SHA256.SUM4.R"
  | .sha256Sum4W _ => "SHA256.SUM4.W"
  | .sha256Sum5R => "SHA256.SUM5.R"
  | .sha256Sum5W _ => "SHA256.SUM5.W"
  | .sha256Sum6R => "SHA256.SUM6.R"
  | .sha256Sum6W _ => "SHA256.SUM6.W"
  | .sha256Sum7R => "SHA256.SUM7.R"
  | .sha256Sum7W _ => "SHA256.SUM7.W"
  | .roscCtrlR => "ROSC.CTRL.R"
  | .roscCtrlW _ => "ROSC.CTRL.W"
  | .roscFreqaR => "ROSC.FREQA.R"
  | .roscFreqaW _ => "ROSC.FREQA.W"
  | .roscFreqbR => "ROSC.FREQB.R"
  | .roscFreqbW _ => "ROSC.FREQB.W"
  | .roscDormantR => "ROSC.DORMANT.R"
  | .roscDormantW _ => "ROSC.DORMANT.W"
  | .roscDivR => "ROSC.DIV.R"
  | .roscDivW _ => "ROSC.DIV.W"
  | .roscPhaseR => "ROSC.PHASE.R"
  | .roscPhaseW _ => "ROSC.PHASE.W"
  | .roscStatusR => "ROSC.STATUS.R"
  | .roscStatusW _ => "ROSC.STATUS.W"
  | .roscRandombitR => "ROSC.RANDOMBIT.R"
  | .roscRandombitW _ => "ROSC.RANDOMBIT.W"
  | .resetsResetR => "RESETS.RESET.R"
  | .resetsResetW _ => "RESETS.RESET.W"
  | .resetsUnknownR _ => "RESETS.UNKNOWN.R"
  | .resetsUnknownW _ _ => "RESETS.UNKNOWN.W"
  | .roscUnknownR _ => "ROSC.UNKNOWN.R"
  | .roscUnknownW _ _ => "ROSC.UNKNOWN.W"
  | .trngUnknownR _ => "TRNG.UNKNOWN.R"
  | .trngUnknownW _ _ => "TRNG.UNKNOWN.W"
  | .sha256UnknownR _ => "SHA256.UNKNOWN.R"
  | .sha256UnknownW _ _ => "SHA256.UNKNOWN.W"
  | .windowUnmappedR _ => "WINDOW.UNMAPPED.R"
  | .windowUnmappedW _ _ => "WINDOW.UNMAPPED.W"
  | .refuseFetch _ _ => "REFUSE.FETCH"
  | .refuseReservedKind _ _ => "REFUSE.RESERVED_KIND"
  | .refuseReservedSize _ _ => "REFUSE.RESERVED_SIZE"
  | .refuseSubword _ _ _ => "REFUSE.SUBWORD"
  | .refuseMisalignedOdd _ _ => "REFUSE.MISALIGNED_ODD"
  | .refuseMisalignedHalf _ _ => "REFUSE.MISALIGNED_HALF"
  | .outsideWindow _ => "OUTSIDE_WINDOW"
  | .shareSplitKey _ => "SHARE.splitKey"
  | .shareSplitIV _ => "SHARE.splitIV"
  | .shareJoinKey _ => "SHARE.joinKey"

/-- One row of spec/opcode_table.json that has a key: the row selects the keys with `key & mask = pattern` (R81). -/
structure Row where
  mnemonic : String
  pattern : BitVec 36
  mask : BitVec 36
  priority : Nat
  deriving DecidableEq, Repr

/-- `key(T) & mask = match` (R81). -/
def Row.selects (r : Row) (key : BitVec 36) : Bool := key &&& r.mask == r.pattern

/-- The rows of the TRNG registers (spec/opcode_table.json). -/
def trngRows : List Row :=
  [⟨"TRNG.RNG_IMR.R", 0x2400F0100#36, 0xFFFFFFFFF#36, 0⟩,
   ⟨"TRNG.RNG_IMR.W", 0x6400F0100#36, 0xFFFFFFFFF#36, 0⟩,
   ⟨"TRNG.RNG_ISR.R", 0x2400F0104#36, 0xFFFFFFFFF#36, 0⟩,
   ⟨"TRNG.RNG_ISR.W", 0x6400F0104#36, 0xFFFFFFFFF#36, 0⟩,
   ⟨"TRNG.RNG_ICR.R", 0x2400F0108#36, 0xFFFFFFFFF#36, 0⟩,
   ⟨"TRNG.RNG_ICR.W", 0x6400F0108#36, 0xFFFFFFFFF#36, 0⟩,
   ⟨"TRNG.TRNG_CONFIG.R", 0x2400F010C#36, 0xFFFFFFFFF#36, 0⟩,
   ⟨"TRNG.TRNG_CONFIG.W", 0x6400F010C#36, 0xFFFFFFFFF#36, 0⟩,
   ⟨"TRNG.TRNG_VALID.R", 0x2400F0110#36, 0xFFFFFFFFF#36, 0⟩,
   ⟨"TRNG.TRNG_VALID.W", 0x6400F0110#36, 0xFFFFFFFFF#36, 0⟩,
   ⟨"TRNG.EHR_DATA0.R", 0x2400F0114#36, 0xFFFFFFFFF#36, 0⟩,
   ⟨"TRNG.EHR_DATA0.W", 0x6400F0114#36, 0xFFFFFFFFF#36, 0⟩,
   ⟨"TRNG.EHR_DATA1.R", 0x2400F0118#36, 0xFFFFFFFFF#36, 0⟩,
   ⟨"TRNG.EHR_DATA1.W", 0x6400F0118#36, 0xFFFFFFFFF#36, 0⟩,
   ⟨"TRNG.EHR_DATA2.R", 0x2400F011C#36, 0xFFFFFFFFF#36, 0⟩,
   ⟨"TRNG.EHR_DATA2.W", 0x6400F011C#36, 0xFFFFFFFFF#36, 0⟩,
   ⟨"TRNG.EHR_DATA3.R", 0x2400F0120#36, 0xFFFFFFFFF#36, 0⟩,
   ⟨"TRNG.EHR_DATA3.W", 0x6400F0120#36, 0xFFFFFFFFF#36, 0⟩,
   ⟨"TRNG.EHR_DATA4.R", 0x2400F0124#36, 0xFFFFFFFFF#36, 0⟩,
   ⟨"TRNG.EHR_DATA4.W", 0x6400F0124#36, 0xFFFFFFFFF#36, 0⟩,
   ⟨"TRNG.EHR_DATA5.R", 0x2400F0128#36, 0xFFFFFFFFF#36, 0⟩,
   ⟨"TRNG.EHR_DATA5.W", 0x6400F0128#36, 0xFFFFFFFFF#36, 0⟩,
   ⟨"TRNG.RND_SOURCE_ENABLE.R", 0x2400F012C#36, 0xFFFFFFFFF#36, 0⟩,
   ⟨"TRNG.RND_SOURCE_ENABLE.W", 0x6400F012C#36, 0xFFFFFFFFF#36, 0⟩,
   ⟨"TRNG.SAMPLE_CNT1.R", 0x2400F0130#36, 0xFFFFFFFFF#36, 0⟩,
   ⟨"TRNG.SAMPLE_CNT1.W", 0x6400F0130#36, 0xFFFFFFFFF#36, 0⟩,
   ⟨"TRNG.TRNG_DEBUG_CONTROL.R", 0x2400F0138#36, 0xFFFFFFFFF#36, 0⟩,
   ⟨"TRNG.TRNG_DEBUG_CONTROL.W", 0x6400F0138#36, 0xFFFFFFFFF#36, 0⟩,
   ⟨"TRNG.TRNG_SW_RESET.R", 0x2400F0140#36, 0xFFFFFFFFF#36, 0⟩,
   ⟨"TRNG.TRNG_SW_RESET.W", 0x6400F0140#36, 0xFFFFFFFFF#36, 0⟩,
   ⟨"TRNG.TRNG_BUSY.R", 0x2400F01B8#36, 0xFFFFFFFFF#36, 0⟩,
   ⟨"TRNG.TRNG_BUSY.W", 0x6400F01B8#36, 0xFFFFFFFFF#36, 0⟩]

/-- The rows of the SHA-256 registers (spec/opcode_table.json). -/
def shaRows : List Row :=
  [⟨"SHA256.CSR.R", 0x2400F8000#36, 0xFFFFFFFFF#36, 0⟩,
   ⟨"SHA256.CSR.W", 0x6400F8000#36, 0xFFFFFFFFF#36, 0⟩,
   ⟨"SHA256.WDATA.R", 0x2400F8004#36, 0xFFFFFFFFF#36, 0⟩,
   ⟨"SHA256.WDATA.W", 0x6400F8004#36, 0xFFFFFFFFF#36, 0⟩,
   ⟨"SHA256.SUM0.R", 0x2400F8008#36, 0xFFFFFFFFF#36, 0⟩,
   ⟨"SHA256.SUM0.W", 0x6400F8008#36, 0xFFFFFFFFF#36, 0⟩,
   ⟨"SHA256.SUM1.R", 0x2400F800C#36, 0xFFFFFFFFF#36, 0⟩,
   ⟨"SHA256.SUM1.W", 0x6400F800C#36, 0xFFFFFFFFF#36, 0⟩,
   ⟨"SHA256.SUM2.R", 0x2400F8010#36, 0xFFFFFFFFF#36, 0⟩,
   ⟨"SHA256.SUM2.W", 0x6400F8010#36, 0xFFFFFFFFF#36, 0⟩,
   ⟨"SHA256.SUM3.R", 0x2400F8014#36, 0xFFFFFFFFF#36, 0⟩,
   ⟨"SHA256.SUM3.W", 0x6400F8014#36, 0xFFFFFFFFF#36, 0⟩,
   ⟨"SHA256.SUM4.R", 0x2400F8018#36, 0xFFFFFFFFF#36, 0⟩,
   ⟨"SHA256.SUM4.W", 0x6400F8018#36, 0xFFFFFFFFF#36, 0⟩,
   ⟨"SHA256.SUM5.R", 0x2400F801C#36, 0xFFFFFFFFF#36, 0⟩,
   ⟨"SHA256.SUM5.W", 0x6400F801C#36, 0xFFFFFFFFF#36, 0⟩,
   ⟨"SHA256.SUM6.R", 0x2400F8020#36, 0xFFFFFFFFF#36, 0⟩,
   ⟨"SHA256.SUM6.W", 0x6400F8020#36, 0xFFFFFFFFF#36, 0⟩,
   ⟨"SHA256.SUM7.R", 0x2400F8024#36, 0xFFFFFFFFF#36, 0⟩,
   ⟨"SHA256.SUM7.W", 0x6400F8024#36, 0xFFFFFFFFF#36, 0⟩]

/-- The rows of the ROSC registers (spec/opcode_table.json). -/
def roscRows : List Row :=
  [⟨"ROSC.CTRL.R", 0x2400E8000#36, 0xFFFFFFFFF#36, 0⟩,
   ⟨"ROSC.CTRL.W", 0x6400E8000#36, 0xFFFFFFFFF#36, 0⟩,
   ⟨"ROSC.FREQA.R", 0x2400E8004#36, 0xFFFFFFFFF#36, 0⟩,
   ⟨"ROSC.FREQA.W", 0x6400E8004#36, 0xFFFFFFFFF#36, 0⟩,
   ⟨"ROSC.FREQB.R", 0x2400E8008#36, 0xFFFFFFFFF#36, 0⟩,
   ⟨"ROSC.FREQB.W", 0x6400E8008#36, 0xFFFFFFFFF#36, 0⟩,
   ⟨"ROSC.DORMANT.R", 0x2400E8010#36, 0xFFFFFFFFF#36, 0⟩,
   ⟨"ROSC.DORMANT.W", 0x6400E8010#36, 0xFFFFFFFFF#36, 0⟩,
   ⟨"ROSC.DIV.R", 0x2400E8014#36, 0xFFFFFFFFF#36, 0⟩,
   ⟨"ROSC.DIV.W", 0x6400E8014#36, 0xFFFFFFFFF#36, 0⟩,
   ⟨"ROSC.PHASE.R", 0x2400E8018#36, 0xFFFFFFFFF#36, 0⟩,
   ⟨"ROSC.PHASE.W", 0x6400E8018#36, 0xFFFFFFFFF#36, 0⟩,
   ⟨"ROSC.STATUS.R", 0x2400E801C#36, 0xFFFFFFFFF#36, 0⟩,
   ⟨"ROSC.STATUS.W", 0x6400E801C#36, 0xFFFFFFFFF#36, 0⟩,
   ⟨"ROSC.RANDOMBIT.R", 0x2400E8020#36, 0xFFFFFFFFF#36, 0⟩,
   ⟨"ROSC.RANDOMBIT.W", 0x6400E8020#36, 0xFFFFFFFFF#36, 0⟩]

/-- The rows of the RESETS register (spec/opcode_table.json). -/
def resetsRows : List Row :=
  [⟨"RESETS.RESET.R", 0x240020000#36, 0xFFFFFFFFF#36, 0⟩,
   ⟨"RESETS.RESET.W", 0x640020000#36, 0xFFFFFFFFF#36, 0⟩]

/-- The rows of the unknown offsets, the rest of the window, the refusals and the rest of the address space (spec/opcode_table.json). -/
def otherRows : List Row :=
  [⟨"RESETS.UNKNOWN.R", 0x240020000#36, 0xFFFFFF003#36, 1⟩,
   ⟨"RESETS.UNKNOWN.W", 0x640020000#36, 0xFFFFFF003#36, 1⟩,
   ⟨"ROSC.UNKNOWN.R", 0x2400E8000#36, 0xFFFFFF003#36, 1⟩,
   ⟨"ROSC.UNKNOWN.W", 0x6400E8000#36, 0xFFFFFF003#36, 1⟩,
   ⟨"TRNG.UNKNOWN.R", 0x2400F0000#36, 0xFFFFFF003#36, 1⟩,
   ⟨"TRNG.UNKNOWN.W", 0x6400F0000#36, 0xFFFFFF003#36, 1⟩,
   ⟨"SHA256.UNKNOWN.R", 0x2400F8000#36, 0xFFFFFF003#36, 1⟩,
   ⟨"SHA256.UNKNOWN.W", 0x6400F8000#36, 0xFFFFFF003#36, 1⟩,
   ⟨"WINDOW.UNMAPPED.R", 0x240000000#36, 0xFFFF00003#36, 2⟩,
   ⟨"WINDOW.UNMAPPED.W", 0x640000000#36, 0xFFFF00003#36, 2⟩,
   ⟨"REFUSE.FETCH", 0x840000000#36, 0xCFFF00000#36, 0⟩,
   ⟨"REFUSE.RESERVED_KIND", 0xC40000000#36, 0xCFFF00000#36, 0⟩,
   ⟨"REFUSE.RESERVED_SIZE", 0x340000000#36, 0xBFFF00000#36, 0⟩,
   ⟨"REFUSE.SUBWORD", 0x040000000#36, 0xAFFF00000#36, 0⟩,
   ⟨"REFUSE.MISALIGNED_ODD", 0x240000001#36, 0xBFFF00001#36, 0⟩,
   ⟨"REFUSE.MISALIGNED_HALF", 0x240000002#36, 0xBFFF00003#36, 0⟩,
   ⟨"OUTSIDE_WINDOW", 0x000000000#36, 0x000000000#36, 3⟩]

/-- The rows of spec/opcode_table.json that have a key, in its order. -/
def opcodeRows : List Row := trngRows ++ shaRows ++ roscRows ++ resetsRows ++ otherRows

/-- The row a key takes: the matching row of lowest priority (R84). -/
def lookupRow (key : BitVec 36) : Option Row :=
  [0, 1, 2, 3].findSome? fun p => opcodeRows.find? fun r => r.priority == p && r.selects key

end Sys2Proof
end

