-- ==== Sys2Proof/Config.lean ====
section
/-! DEFINITION. The implementation parameters of spec/00_scope.md R6: the sizes the spec fixes, the defaults it names, and
the free values. A constant without a body below is an OPEN parameter or a draw: no proof can see its value (R6, R9). -/

namespace Sys2Proof.Config

/-- `SHA_BLOCK_WORDS` (R6). -/
def shaBlockWords : Nat := 16

/-- `SHA_ROUNDS` (R6). -/
def shaRounds : Nat := 64

/-- `KEY_WORDS` (R6). -/
def keyWords : Nat := 8

/-- `KEY_BYTES` (R6). -/
def keyBytes : Nat := 32

/-- `KEY_SHARE_BYTES` (R6). -/
def keyShareBytes : Nat := 128

/-- `IV_BYTES` (R6). -/
def ivBytes : Nat := 16

/-- The default the spec names for the OPEN parameter `ROSC_RANDOMBIT_MASK` (R6, D24). -/
def randombitMaskDefault : Word := 0x00000001#32

/-- The k-th draw of the invocation, `dk` of spec/95_test_vectors.md, counting from 1 (R9). A free value: notes/assumptions/2.md. -/
opaque draw : Nat → Word

/-- Byte `j` of the k-th draw when that draw is a `drawBytes` (R9). A free value: notes/assumptions/2.md. -/
opaque drawByte : Nat → Nat → Byte

/-- The OPEN parameter `rosc_init` (R40): the value of the ROSC storage register at the given offset when the block is
constructed. A free value: notes/assumptions/5.md. -/
opaque roscInit : Nat → Word

/-- One memory region the harness maps: part of the OPEN parameter `harness_regions` (R295, D38). -/
structure Region where
  base : Word
  size : Nat
  deriving DecidableEq, Repr

/-- The OPEN parameter `harness_regions` (R295, D38). A free value: notes/assumptions/7.md. -/
opaque harnessRegions : List Region

/-- The program counter of the CPU engine when it starts, part of the OPEN parameter `harness_regions` (D38, the entry
address). A free value: notes/assumptions/12.md. -/
opaque entryPc : Word

end Sys2Proof.Config
end

