-- ==== Sys2Proof/Machine/Memory.lean ====
section
/-! DEFINITION. The emulator's memory: the backing memory of the window and the harness's regions (spec/10_state.md R46,
spec/44_dispatcher.md R228, R229), as a list of bytes by address in one canonical form. -/

namespace Sys2Proof.Machine

/-- Bytes by address. The canonical form is `Memory.wf`. -/
abbrev Memory := List Host.Cell

/-- What an address that is not listed reads as: DESIGN CHOICE, notes/assumptions/8.md. -/
def Memory.unlisted : Byte := 0#8

/-- The size of the address space: addresses are 32 bits wide (R6). -/
def Memory.space : Nat := 0x100000000

/-- The canonical form: addresses strictly rising and inside the address space, and no byte listed that an unlisted address
reads as. -/
def Memory.wf : Memory → Bool
  | [] => true
  | [c] => decide (c.1 < Memory.space) && c.2 != Memory.unlisted
  | c :: d :: m => decide (c.1 < d.1) && c.2 != Memory.unlisted && Memory.wf (d :: m)

/-- The byte at an address. -/
def Memory.read (m : Memory) (a : Nat) : Byte :=
  match m with
  | [] => Memory.unlisted
  | c :: m => if c.1 = a then c.2 else Memory.read m a

/-- The memory without the byte at an address. -/
def Memory.erase (m : Memory) (a : Nat) : Memory := m.filter fun c => c.1 != a

/-- The memory with one more byte, in front of the first higher address. -/
def Memory.insert (m : Memory) (a : Nat) (b : Byte) : Memory :=
  match m with
  | [] => [(a, b)]
  | c :: m => if a < c.1 then (a, b) :: c :: m else c :: Memory.insert m a b

/-- The memory after a store of one byte: writing what an unlisted address reads as removes the entry. -/
def Memory.write (m : Memory) (a : Nat) (b : Byte) : Memory :=
  if b = Memory.unlisted then m.erase a else (m.erase a).insert a b

/-- `n` bytes from an address up. -/
def Memory.readBytes (m : Memory) (a : Nat) : Nat → List Byte
  | 0 => []
  | n + 1 => m.read a :: m.readBytes (a + 1) n

/-- The memory after bytes are stored from an address up. -/
def Memory.writeBytes (m : Memory) (a : Nat) : List Byte → Memory
  | [] => m
  | b :: bs => (m.write a b).writeBytes (a + 1) bs

/-- The memory after a word is stored little-endian (R63): how the harness hands over a read's value and how a store to the
window completes (R228, R229, D37). -/
def Memory.writeWord (m : Memory) (a v : Word) : Memory := m.writeBytes a.toNat (wordBytes v)

end Sys2Proof.Machine
end

