-- ==== Sys2Proof/Machine/Compress.lean ====
section
/-! DEFINITION. The SHA-256 compression function (spec/41_sha256.md R148, R150 to R153, R160). Every `+` on words is addition
modulo 2^32 (R160). -/

namespace Sys2Proof.Machine

/-- The initial hash value `H0[0..7]` (R150). -/
def hashInit : Vector Word 8 :=
  #v[0x6A09E667#32, 0xBB67AE85#32, 0x3C6EF372#32, 0xA54FF53A#32, 0x510E527F#32, 0x9B05688C#32, 0x1F83D9AB#32, 0x5BE0CD19#32]

/-- The round constants `K[0..15]` (R151). -/
def roundConstants0 : List Word :=
  [0x428A2F98#32, 0x71374491#32, 0xB5C0FBCF#32, 0xE9B5DBA5#32, 0x3956C25B#32, 0x59F111F1#32, 0x923F82A4#32, 0xAB1C5ED5#32,
   0xD807AA98#32, 0x12835B01#32, 0x243185BE#32, 0x550C7DC3#32, 0x72BE5D74#32, 0x80DEB1FE#32, 0x9BDC06A7#32, 0xC19BF174#32]

/-- The round constants `K[16..31]` (R151). -/
def roundConstants1 : List Word :=
  [0xE49B69C1#32, 0xEFBE4786#32, 0x0FC19DC6#32, 0x240CA1CC#32, 0x2DE92C6F#32, 0x4A7484AA#32, 0x5CB0A9DC#32, 0x76F988DA#32,
   0x983E5152#32, 0xA831C66D#32, 0xB00327C8#32, 0xBF597FC7#32, 0xC6E00BF3#32, 0xD5A79147#32, 0x06CA6351#32, 0x14292967#32]

/-- The round constants `K[32..47]` (R151). -/
def roundConstants2 : List Word :=
  [0x27B70A85#32, 0x2E1B2138#32, 0x4D2C6DFC#32, 0x53380D13#32, 0x650A7354#32, 0x766A0ABB#32, 0x81C2C92E#32, 0x92722C85#32,
   0xA2BFE8A1#32, 0xA81A664B#32, 0xC24B8B70#32, 0xC76C51A3#32, 0xD192E819#32, 0xD6990624#32, 0xF40E3585#32, 0x106AA070#32]

/-- The round constants `K[48..63]` (R151). -/
def roundConstants3 : List Word :=
  [0x19A4C116#32, 0x1E376C08#32, 0x2748774C#32, 0x34B0BCB5#32, 0x391C0CB3#32, 0x4ED8AA4A#32, 0x5B9CCA4F#32, 0x682E6FF3#32,
   0x748F82EE#32, 0x78A5636F#32, 0x84C87814#32, 0x8CC70208#32, 0x90BEFFFA#32, 0xA4506CEB#32, 0xBEF9A3F7#32, 0xC67178F2#32]

/-- The round constants `K[0..63]` (R151). -/
def roundConstants : List Word := roundConstants0 ++ roundConstants1 ++ roundConstants2 ++ roundConstants3

/-- `Ch(e, f, g)` (R152). -/
def ch (e f g : Word) : Word := (e &&& f) ^^^ (~~~e &&& g)

/-- `Maj(a, b, c)` (R152). -/
def maj (a b c : Word) : Word := (a &&& b) ^^^ (a &&& c) ^^^ (b &&& c)

/-- `Σ0(a)` (R152). -/
def bigSigma0 (a : Word) : Word := rotr a 2 ^^^ rotr a 13 ^^^ rotr a 22

/-- `Σ1(e)` (R152). -/
def bigSigma1 (e : Word) : Word := rotr e 6 ^^^ rotr e 11 ^^^ rotr e 25

/-- `σ0(x)` (R152). -/
def smallSigma0 (x : Word) : Word := rotr x 7 ^^^ rotr x 18 ^^^ shr x 3

/-- `σ1(x)` (R152). -/
def smallSigma1 (x : Word) : Word := rotr x 17 ^^^ rotr x 19 ^^^ shr x 10

/-- `W[t]` from the words before it, which are given newest first: position 0 is `W[t-1]`, position 15 is `W[t-16]` (R153). -/
def nextScheduleWord (newest : List Word) : Word :=
  smallSigma1 (newest.getD 1 0) + newest.getD 6 0 + smallSigma0 (newest.getD 14 0) + newest.getD 15 0

/-- `n` further words of the schedule, newest first. -/
def extendSchedule : Nat → List Word → List Word
  | 0, newest => newest
  | n + 1, newest => extendSchedule n (nextScheduleWord newest :: newest)

/-- The message schedule `W[0..63]` of a block of sixteen message words, `W[0]` first (R153). -/
def schedule (block : List Word) : List Word := (extendSchedule 48 block.reverse).reverse

/-- The eight working variables `a` to `hh` of R153. -/
structure Working where
  a : Word
  b : Word
  c : Word
  d : Word
  e : Word
  f : Word
  g : Word
  hh : Word
  deriving DecidableEq, Repr

/-- `T1` of a round (R153); `kw` is the pair of `K[t]` and `W[t]`. -/
def temp1 (x : Working) (kw : Word × Word) : Word := x.hh + bigSigma1 x.e + ch x.e x.f x.g + kw.1 + kw.2

/-- `T2` of a round (R153). -/
def temp2 (x : Working) : Word := bigSigma0 x.a + maj x.a x.b x.c

/-- One round of the compression (R153). -/
def round (x : Working) (kw : Word × Word) : Working :=
  { a := temp1 x kw + temp2 x, b := x.a, c := x.b, d := x.c, e := x.d + temp1 x kw, f := x.e, g := x.f, hh := x.g }

/-- The working variables before round 0: the hash state (R153). -/
def Working.ofHash (h : Vector Word 8) : Working :=
  { a := h[0], b := h[1], c := h[2], d := h[3], e := h[4], f := h[5], g := h[6], hh := h[7] }

/-- The hash state after the last round: word by word the old one plus the working variables (R153). -/
def Working.addHash (x : Working) (h : Vector Word 8) : Vector Word 8 :=
  #v[h[0] + x.a, h[1] + x.b, h[2] + x.c, h[3] + x.d, h[4] + x.e, h[5] + x.f, h[6] + x.g, h[7] + x.hh]

/-- `compress(h, W)` (R153). -/
def compress (h : Vector Word 8) (block : List Word) : Vector Word 8 :=
  ((roundConstants.zip (schedule block)).foldl round (Working.ofHash h)).addHash h

/-- `msgword(x)` (R148): a queued word as it enters compression. -/
def msgWord (bswap : Bool) (x : Word) : Word := if bswap then bswap32 x else x

end Sys2Proof.Machine
end

