-- ==== Sys2Proof/Machine/Peripherals.lean ====
section
/-! DEFINITION. The state of the four register-file models, `S = {TRNG, SHA, ROSC, RESETS}` (spec/10_state.md R22). -/

namespace Sys2Proof.Machine

/-- The TRNG state (R23). The status and the busy flag are derived, not stored (R24). -/
structure Trng where
  imr : Word
  config : Word
  srcEnable : Word
  sampleCnt1 : Word
  debugControl : Word
  pool : Vector Word 6
  deriving DecidableEq, Repr

/-- The SHA-256 accelerator state (R29). START and WDATA_RDY hold no stored value (R29, R30). -/
structure Sha where
  bswap : Bool
  dmaSize : BitVec 2
  sumVld : Bool
  queue : List Word
  h : Vector Word 8
  deriving DecidableEq, Repr

/-- The ROSC state (R35). The random-bit source holds no stored value. -/
structure Rosc where
  ctrl : Word
  freqa : Word
  freqb : Word
  dormant : Word
  div : Word
  phase : Word
  status : Word
  deriving DecidableEq, Repr

/-- The RESETS state: one bit a peripheral, 1 while it is held in reset (R41). -/
structure Resets where
  reset : Word
  deriving DecidableEq, Repr

/-- The block state `S` (R22). -/
structure Block where
  trng : Trng
  sha : Sha
  rosc : Rosc
  resets : Resets
  deriving DecidableEq, Repr

end Sys2Proof.Machine
end

