-- ==== Sys2Proof/Machine/ResetValues.lean ====
section
/-! DEFINITION. The architectural reset state of each peripheral (spec/10_state.md R28, R34, R40, R43;
spec/70_reset_and_hazards.md R290, R291), and the pool's draws. -/

namespace Sys2Proof.Machine

/-- The six draws of a fresh pool, `draw32()` each, when `k` draws were consumed before: `pool[0]` takes draw `k + 1` (R100,
R290, R291). -/
def drawPool (k : Nat) : Vector Word 6 :=
  #v[Config.draw (k + 1), Config.draw (k + 2), Config.draw (k + 3), Config.draw (k + 4), Config.draw (k + 5), Config.draw (k + 6)]

/-- The TRNG reset state with a given pool (R28). -/
def Trng.initial (pool : Vector Word 6) : Trng :=
  { imr := 0x0000000F#32, config := 0x00000000#32, srcEnable := 0x00000000#32, sampleCnt1 := 0x0000FFFF#32,
    debugControl := 0x00000000#32, pool := pool }

/-- The SHA-256 accelerator reset state (R34). -/
def Sha.initial : Sha := { bswap := true, dmaSize := 2#2, sumVld := true, queue := [], h := hashInit }

/-- The ROSC reset state: the OPEN parameter `rosc_init`, one value a register (R40), by the register's offset (R36). -/
def Rosc.initial : Rosc :=
  { ctrl := Config.roscInit 0x00, freqa := Config.roscInit 0x04, freqb := Config.roscInit 0x08, dormant := Config.roscInit 0x10,
    div := Config.roscInit 0x14, phase := Config.roscInit 0x18, status := Config.roscInit 0x1C }

/-- The RESETS reset state: every peripheral held in reset (R43). -/
def Resets.initial : Resets := { reset := 0x1FFFFFFF#32 }

end Sys2Proof.Machine
end

