-- ==== Sys2Proof/Machine/State.lean ====
section
/-! DEFINITION. The machine's state as plain data: the block state of spec/10_state.md R22, the OPEN parameters of
spec/00_scope.md R6, the environment its interface is specified against, and the inputs and outputs of a step (R10). -/

namespace Sys2Proof.Machine

/-- The error of a host function (R264 `InputLength`), with the function it names. -/
inductive HostError where
  | inputLengthSplitKey
  | inputLengthSplitIV
  | inputLengthJoinKey
  deriving DecidableEq, Repr

/-- What a step answers (R10: `r`), the result of a host function, or its error (R245). -/
inductive Response where
  /-- Nothing has been answered yet. -/
  | none
  /-- A read's 32-bit value. -/
  | value (v : Word)
  /-- A write, which returns nothing. -/
  | done
  /-- The bytes `splitKey` or `joinKey` returns. -/
  | bytes (bs : List Byte)
  /-- The pair `splitIV` returns. -/
  | sharePair (shareA shareB : List Byte)
  /-- A host function stopped with an error and produced no output. -/
  | error (e : HostError)
  deriving DecidableEq, Repr

/-- The fault outcomes of spec/60_exceptions.md R264. -/
inductive Fault where
  /-- Raised by the harness for an access outside the window that no mapped region serves, with the address and the engine's
  program counter (R227, R261). The spec's own fault: safe. -/
  | unmappedAccess (addr pc : Word)
  /-- Reported by the CPU engine, with its program counter (R262). The spec's own fault: safe. -/
  | illegalInstruction (pc : Word)
  /-- Reported by the CPU engine, with its program counter (R262). The spec's own fault: safe. -/
  | engineInternalError (pc : Word)
  deriving DecidableEq, Repr

/-- The refusal outcomes of spec/60_exceptions.md R264. -/
inductive Refusal where
  /-- An instruction without a meaning yet; no arm of `exec` answers it any more. Safe. -/
  | notModelled (mnemonic : String)
  /-- Raised by the dispatcher for an instruction fetch in the window (R226, R264). Safe. -/
  | fetchFromMmio (addr : Word)
  /-- Raised by the dispatcher for kind 3 or size code 3 in the window (R226, R264). Safe. -/
  | reservedCode (addr : Word)
  /-- Raised by the dispatcher for a read or write of 1 or 2 bytes in the window, with its size code (R226, R264). Safe. -/
  | subwordMmio (addr : Word) (size : BitVec 2)
  /-- Raised by the dispatcher for a word access in the window with `addr[1:0] ≠ 0` (R226, R264). Safe. -/
  | misalignedMmio (addr : Word)
  deriving DecidableEq, Repr

/-- The state of the machine. -/
structure State where
  /-- The block state `S` (R22). -/
  block : Block
  /-- `ROSC_RANDOMBIT_MASK`, an OPEN parameter (R6, R195). No step writes it. -/
  randombitMask : Word
  /-- The regions of `harness_regions`, an OPEN parameter (R295). No step writes it. -/
  regions : List Config.Region
  /-- How many draws were consumed; the next one is `Config.draw (draws + 1)` (notes/assumptions/2.md). -/
  draws : Nat
  /-- What the outside has presented and no step has taken, oldest first (notes/assumptions/1.md). -/
  requests : List Request
  /-- What the last step answered (notes/assumptions/16.md). -/
  response : Response
  /-- The emulator's memory (R46, R228, R229; notes/assumptions/9.md). -/
  mem : Memory
  /-- The CPU engine's program counter, which a fault reports (R264; notes/assumptions/12.md). No step writes it. -/
  pc : Word
  deriving DecidableEq, Repr

/-- Construction of a fresh block for one invocation (R290, R294), with the OPEN parameters as arguments: the pool takes draws
1 to 6 before anything else. -/
def State.construct (rosc : Rosc) (mask : Word) (regions : List Config.Region) (pc : Word) : State :=
  { block := { trng := Trng.initial (drawPool 0), sha := Sha.initial, rosc := rosc, resets := Resets.initial },
    randombitMask := mask, regions := regions, draws := 6, requests := [], response := .none, mem := [], pc := pc }

/-- The machine right after construction, with the parameters of Config (R290). -/
def State.reset : State :=
  State.construct Rosc.initial Config.randombitMaskDefault Config.harnessRegions Config.entryPc

end Sys2Proof.Machine
end

