-- ==== Sys2Proof/Machine/Flags.lean ====
section
/-! DEFINITION. The status flags of spec/10_state.md R44: the constant status values of the TRNG (R24) and the composite CSR of
the SHA-256 accelerator (R30). SUM_VLD is set and cleared by `Sha.start` and `Sha.push` alone (R44, R162). -/

namespace Sys2Proof.Machine

/-- RNG_ISR: EHR_VALID reads 1, every error status 0 (R24, R106). -/
def rngIsrValue : Word := 0x00000001#32

/-- TRNG_VALID: EHR_VALID reads 1 (R24, R112). -/
def trngValidValue : Word := 0x00000001#32

/-- TRNG_BUSY: entropy is never delayed (R24, R124). -/
def trngBusyValue : Word := 0x00000000#32

/-- What a write-only register and an unknown offset read as (R109, R123, R145, R222, R225). -/
def zeroValue : Word := 0x00000000#32

/-- The CSR: BSWAP at bit 12, bits 11:10 zero, DMA_SIZE at 9:8, bits 7:3 zero, SUM_VLD at bit 2, WDATA_RDY 1, START 0 (the table of
R30, R141; the concatenation written in R30 has one zero too many: notes/assumptions/20.md). -/
def csrValue (sha : Sha) : Word :=
  (BitVec.ofBool sha.bswap ++ 0#2 ++ sha.dmaSize ++ 0#5 ++ BitVec.ofBool sha.sumVld ++ 1#1 ++ 0#1).setWidth 32

end Sys2Proof.Machine
end

