-- ==== Sys2Proof/Machine/Operands.lean ====
section
/-! DEFINITION. The operands of a transaction: the bits of a write's value that have an effect (spec/10_state.md R26, R30, R42),
the width of an access, and byte strings (spec/45_secret_sharing.md). -/

namespace Sys2Proof.Machine

/-- `v[0]`, the action bit of RNG_ICR, RND_SOURCE_ENABLE, TRNG_SW_RESET and CSR (R26, R30, R82). -/
def actionBit (v : Word) : Bool := bit v 0

/-- `v[9:8]`, the DMA_SIZE field of a CSR value (R30). -/
def dmaSizeField (v : Word) : BitVec 2 := v.extractLsb' 8 2

/-- `v[12]`, the BSWAP field of a CSR value (R30). -/
def bswapField (v : Word) : Bool := bit v 12

/-- `RESETS_TRNG_BIT` (R42). -/
def resetsTrngBit : Nat := 25

/-- `RESETS_SHA256_BIT` (R42). -/
def resetsShaBit : Nat := 17

/-- A RESETS bit goes from 1 to 0: the peripheral is released from reset (R203). -/
def released (old new : Word) (i : Nat) : Bool := bit old i && !bit new i

/-- The number of bytes of a size code; the reserved code 3 has none (R80). -/
def accessBytes (size : BitVec 2) : Option Nat :=
  if size = 0#2 then some 1 else if size = 1#2 then some 2 else if size = 2#2 then some 4 else none

/-- `a ⊕ b` of byte strings, byte by byte (R8). -/
def xorBytes (a b : List Byte) : List Byte := List.zipWith (· ^^^ ·) a b

/-- The `n` bytes from an address up meet no byte of `MMIO_WINDOW` (R62). -/
def clearOfWindow (a n : Nat) : Bool := decide (a + n ≤ 0x40000000 ∨ 0x40100000 ≤ a)

/-- All `n` bytes from an address up lie in the region, in the address space and outside the window (R265: one mapped region serves
an access). DESIGN CHOICE, notes/assumptions/10.md and 23.md: the spec does not say whether a region may reach into the window, nor
what an access that starts below the window sees of its bytes; here no region serves a byte of the window. -/
def regionHolds (r : Config.Region) (a n : Nat) : Bool :=
  decide (r.base.toNat ≤ a ∧ a + n ≤ r.base.toNat + r.size ∧ a + n ≤ Memory.space) && clearOfWindow a n

/-- One of the harness's regions holds the `n` bytes from an address up (R261, R265). -/
def State.maps (s : State) (a : Word) (n : Nat) : Bool := s.regions.any fun r => regionHolds r a.toNat n

/-- How many bytes a region of the harness serves for a transaction outside the window: the width of its size code where one region
holds them all. A reserved kind or size code has no bytes a region could serve (R80; notes/assumptions/11.md). -/
def State.servedBytes (s : State) (t : Transaction) : Option Nat :=
  match t.access with
  | .data _ => (accessBytes t.size).filter (s.maps t.addr)
  | .fetch => (accessBytes t.size).filter (s.maps t.addr)
  | .reserved => none

end Sys2Proof.Machine
end

