-- ==== Sys2Proof/Machine/Ops.lean ====
section
/-! DEFINITION. The operations the meanings share: completing a read or a write through the MMIO trap, a pool refresh, the
re-initialisations, the SHA-256 start and word push, the refusal, and the harness's service of its own regions. The block takes
no exception of its own (spec/60_exceptions.md R260): the trap is the one entry and return it has, it saves and restores nothing
(R268, R269), and what it does to the machine is `State.answerRead` and `State.finishWrite`. -/

namespace Sys2Proof.Machine

/-- The read trap (R228): the value `v` is written little-endian into the emulator's memory at `a`, and is what the pending load
observes. -/
def State.answerRead (s : State) (a v : Word) : State := { s with mem := s.mem.writeWord a v, response := .value v }

/-- The write trap (R229): the store completes into the backing memory at `a`; a write returns nothing. -/
def State.finishWrite (s : State) (a v : Word) : State := { s with mem := s.mem.writeWord a v, response := .done }

/-- A register read: the register's value is the answer, and the block state is unchanged (R223). -/
def readRegister (p : Periph) (off : BitVec 12) (v : Word) (s : State) : Host.Outcome State Fault Refusal :=
  .next (s.answerRead (p.address off) v)

/-- A register write of `v` whose effect on the block is already in the state (R224). -/
def writeRegister (p : Periph) (off : BitVec 12) (v : Word) (s : State) : Host.Outcome State Fault Refusal :=
  .next (s.finishWrite (p.address off) v)

/-- `refuse(reason)` (R8, R263): the transaction has no meaning and changes nothing. -/
def refuse (r : Refusal) : Host.Outcome State Fault Refusal := .refused r

/-- The state with another TRNG record. -/
def State.setTrng (s : State) (x : Trng) : State := { s with block := { s.block with trng := x } }

/-- The state with another SHA-256 record. -/
def State.setSha (s : State) (x : Sha) : State := { s with block := { s.block with sha := x } }

/-- The state with another ROSC record. -/
def State.setRosc (s : State) (x : Rosc) : State := { s with block := { s.block with rosc := x } }

/-- The state with another RESETS record. -/
def State.setResets (s : State) (x : Resets) : State := { s with block := { s.block with resets := x } }

/-- The state after `n` more draws. -/
def State.takeDraws (s : State) (n : Nat) : State := { s with draws := s.draws + n }

/-- The state with another answer. -/
def State.answer (s : State) (r : Response) : State := { s with response := r }

/-- `refresh()` (R100): every pool word is a fresh draw. -/
def State.refresh (s : State) : State := (s.setTrng { s.block.trng with pool := drawPool s.draws }).takeDraws 6

/-- `reinit(TRNG)` (R291). -/
def State.reinitTrng (s : State) : State := (s.setTrng (Trng.initial (drawPool s.draws))).takeDraws 6

/-- `reinit(SHA)` (R291). -/
def State.reinitSha (s : State) : State := s.setSha Sha.initial

/-- `start()` (R143). -/
def Sha.start (sha : Sha) : Sha := { sha with h := hashInit, queue := [], sumVld := true }

/-- A CSR write of `v` (R142): the control fields first, then START. -/
def Sha.writeCsr (sha : Sha) (v : Word) : Sha :=
  let sha' := { sha with dmaSize := dmaSizeField v, bswap := bswapField v }
  if actionBit v then sha'.start else sha'

/-- A WDATA write of `v` (R144): the word is queued; the sixteenth compresses the block with the BSWAP now in force (R148). -/
def Sha.push (sha : Sha) (v : Word) : Sha :=
  let queue := sha.queue ++ [v]
  if queue.length = Config.shaBlockWords then
    { sha with h := compress sha.h (queue.map (msgWord sha.bswap)), queue := [], sumVld := true }
  else { sha with queue := queue, sumVld := false }

/-- A RESET write of `v` (R202): it is stored, then the TRNG and the SHA-256 accelerator are re-initialised where their bit goes
from 1 to 0, the TRNG first (R204). -/
def State.writeReset (s : State) (v : Word) : State :=
  let old := s.block.resets.reset
  let s1 := s.setResets { reset := v }
  let s2 := if released old v resetsTrngBit then s1.reinitTrng else s1
  if released old v resetsShaBit then s2.reinitSha else s2

/-- An access outside the window (R227, R261, R265): served from a region of the harness that holds it, or the fault of an unmapped
access. How a region serves it is the model's choice (notes/assumptions/10.md): a read and a fetch answer the bytes little-endian,
a write stores the low bytes of its value. DESIGN CHOICE, notes/assumptions/22.md: a fetch reads the same memory a store writes, so
it sees every earlier store; the spec leaves fetch coherence open (N21). -/
def harnessAccess (t : Transaction) (s : State) : Host.Outcome State Fault Refusal :=
  match s.servedBytes t, t.access with
  | some n, .data .read => .next (s.answer (.value (leValue (s.mem.readBytes t.addr.toNat n))))
  | some n, .data (.write v) =>
    .next { s with mem := s.mem.writeBytes t.addr.toNat ((wordBytes v).take n), response := .done }
  | some n, .fetch => .next (s.answer (.value (leValue (s.mem.readBytes t.addr.toNat n))))
  | some _, .reserved => .fault (.unmappedAccess t.addr s.pc)
  | none, _ => .fault (.unmappedAccess t.addr s.pc)

end Sys2Proof.Machine
end

