-- ==== Sys2Proof/Machine/Dispatcher.lean ====
section
/-! DEFINITION. The dispatcher's own meanings: unknown offsets (spec/44_dispatcher.md R222), the window outside every region
(R225), the refusals of the admission check (R226) and the addresses outside the window (R227). -/

namespace Sys2Proof.Machine

/-- RESETS.UNKNOWN.R (R222): an unknown offset reads 0. -/
def execResetsUnknownR (off : BitVec 12) (s : State) : Host.Outcome State Fault Refusal :=
  readRegister .resets off zeroValue s

/-- RESETS.UNKNOWN.W (R222): the write is discarded. -/
def execResetsUnknownW (off : BitVec 12) (v : Word) (s : State) : Host.Outcome State Fault Refusal :=
  writeRegister .resets off v s

/-- ROSC.UNKNOWN.R (R222): an unknown offset reads 0. -/
def execRoscUnknownR (off : BitVec 12) (s : State) : Host.Outcome State Fault Refusal :=
  readRegister .rosc off zeroValue s

/-- ROSC.UNKNOWN.W (R222): the write is discarded. -/
def execRoscUnknownW (off : BitVec 12) (v : Word) (s : State) : Host.Outcome State Fault Refusal :=
  writeRegister .rosc off v s

/-- TRNG.UNKNOWN.R (R222): an unknown offset reads 0. -/
def execTrngUnknownR (off : BitVec 12) (s : State) : Host.Outcome State Fault Refusal :=
  readRegister .trng off zeroValue s

/-- TRNG.UNKNOWN.W (R222): the write is discarded. -/
def execTrngUnknownW (off : BitVec 12) (v : Word) (s : State) : Host.Outcome State Fault Refusal :=
  writeRegister .trng off v s

/-- SHA256.UNKNOWN.R (R222): an unknown offset reads 0. -/
def execSha256UnknownR (off : BitVec 12) (s : State) : Host.Outcome State Fault Refusal :=
  readRegister .sha off zeroValue s

/-- SHA256.UNKNOWN.W (R222): the write is discarded. -/
def execSha256UnknownW (off : BitVec 12) (v : Word) (s : State) : Host.Outcome State Fault Refusal :=
  writeRegister .sha off v s

/-- WINDOW.UNMAPPED.R (R225): a window address outside every region reads 0. -/
def execWindowUnmappedR (a : Word) (s : State) : Host.Outcome State Fault Refusal := .next (s.answerRead a zeroValue)

/-- WINDOW.UNMAPPED.W (R225): the write is discarded. -/
def execWindowUnmappedW (a v : Word) (s : State) : Host.Outcome State Fault Refusal := .next (s.finishWrite a v)

/-- REFUSE.FETCH (R226, R73): `refuse(FetchFromMmio)`. -/
def execRefuseFetch (a : Word) (_s : State) : Host.Outcome State Fault Refusal := refuse (.fetchFromMmio a)

/-- REFUSE.RESERVED_KIND (R226, R87): `refuse(ReservedCode)`. -/
def execRefuseReservedKind (a : Word) (_s : State) : Host.Outcome State Fault Refusal := refuse (.reservedCode a)

/-- REFUSE.RESERVED_SIZE (R226, R87): `refuse(ReservedCode)`. -/
def execRefuseReservedSize (a : Word) (_s : State) : Host.Outcome State Fault Refusal := refuse (.reservedCode a)

/-- REFUSE.SUBWORD (R226, R66): `refuse(SubwordMmio)`, with the size code. -/
def execRefuseSubword (half : Bool) (a : Word) (_s : State) : Host.Outcome State Fault Refusal :=
  refuse (.subwordMmio a (if half then 1#2 else 0#2))

/-- REFUSE.MISALIGNED_ODD (R226, R65): `refuse(MisalignedMmio)`. -/
def execRefuseMisalignedOdd (a : Word) (_s : State) : Host.Outcome State Fault Refusal := refuse (.misalignedMmio a)

/-- REFUSE.MISALIGNED_HALF (R226, R65): `refuse(MisalignedMmio)`. -/
def execRefuseMisalignedHalf (a : Word) (_s : State) : Host.Outcome State Fault Refusal := refuse (.misalignedMmio a)

/-- OUTSIDE_WINDOW (R227, R261): no transaction of the block; the harness serves it from one of its regions or faults. -/
def execOutsideWindow (t : Transaction) (s : State) : Host.Outcome State Fault Refusal := harnessAccess t s

end Sys2Proof.Machine
end

