-- ==== Sys2Proof/Machine/Resets.lean ====
section
/-! DEFINITION. The meanings of the RESETS register operations (spec/43_resets.md R201, R202). -/

namespace Sys2Proof.Machine

/-- RESETS.RESET.R (R201): all 32 stored bits. -/
def execResetsResetR (s : State) : Host.Outcome State Fault Refusal :=
  readRegister .resets ResetsReg.reset.offset s.block.resets.reset s

/-- RESETS.RESET.W (R202): the value is stored and a released peripheral is re-initialised. -/
def execResetsResetW (v : Word) (s : State) : Host.Outcome State Fault Refusal :=
  writeRegister .resets ResetsReg.reset.offset v (s.writeReset v)

end Sys2Proof.Machine
end

