-- ==== Sys2Proof/Machine/Rosc.lean ====
section
/-! DEFINITION. The meanings of the ROSC register operations (spec/42_rosc.md R181 to R196). -/

namespace Sys2Proof.Machine

/-- ROSC.CTRL.R (R181): all 32 stored bits. -/
def execRoscCtrlR (s : State) : Host.Outcome State Fault Refusal :=
  readRegister .rosc RoscReg.ctrl.offset s.block.rosc.ctrl s

/-- ROSC.CTRL.W (R182): all 32 bits are stored, with no other effect (R197). -/
def execRoscCtrlW (v : Word) (s : State) : Host.Outcome State Fault Refusal :=
  writeRegister .rosc RoscReg.ctrl.offset v (s.setRosc { s.block.rosc with ctrl := v })

/-- ROSC.FREQA.R (R183): all 32 stored bits. -/
def execRoscFreqaR (s : State) : Host.Outcome State Fault Refusal :=
  readRegister .rosc RoscReg.freqa.offset s.block.rosc.freqa s

/-- ROSC.FREQA.W (R184): all 32 bits are stored, with no other effect (R197). -/
def execRoscFreqaW (v : Word) (s : State) : Host.Outcome State Fault Refusal :=
  writeRegister .rosc RoscReg.freqa.offset v (s.setRosc { s.block.rosc with freqa := v })

/-- ROSC.FREQB.R (R185): all 32 stored bits. -/
def execRoscFreqbR (s : State) : Host.Outcome State Fault Refusal :=
  readRegister .rosc RoscReg.freqb.offset s.block.rosc.freqb s

/-- ROSC.FREQB.W (R186): all 32 bits are stored, with no other effect (R197). -/
def execRoscFreqbW (v : Word) (s : State) : Host.Outcome State Fault Refusal :=
  writeRegister .rosc RoscReg.freqb.offset v (s.setRosc { s.block.rosc with freqb := v })

/-- ROSC.DORMANT.R (R187): all 32 stored bits. -/
def execRoscDormantR (s : State) : Host.Outcome State Fault Refusal :=
  readRegister .rosc RoscReg.dormant.offset s.block.rosc.dormant s

/-- ROSC.DORMANT.W (R188): all 32 bits are stored, with no other effect (R197). -/
def execRoscDormantW (v : Word) (s : State) : Host.Outcome State Fault Refusal :=
  writeRegister .rosc RoscReg.dormant.offset v (s.setRosc { s.block.rosc with dormant := v })

/-- ROSC.DIV.R (R189): all 32 stored bits. -/
def execRoscDivR (s : State) : Host.Outcome State Fault Refusal :=
  readRegister .rosc RoscReg.div.offset s.block.rosc.div s

/-- ROSC.DIV.W (R190): all 32 bits are stored, with no other effect (R197). -/
def execRoscDivW (v : Word) (s : State) : Host.Outcome State Fault Refusal :=
  writeRegister .rosc RoscReg.div.offset v (s.setRosc { s.block.rosc with div := v })

/-- ROSC.PHASE.R (R191): all 32 stored bits. -/
def execRoscPhaseR (s : State) : Host.Outcome State Fault Refusal :=
  readRegister .rosc RoscReg.phase.offset s.block.rosc.phase s

/-- ROSC.PHASE.W (R192): all 32 bits are stored, with no other effect (R197). -/
def execRoscPhaseW (v : Word) (s : State) : Host.Outcome State Fault Refusal :=
  writeRegister .rosc RoscReg.phase.offset v (s.setRosc { s.block.rosc with phase := v })

/-- ROSC.STATUS.R (R193): all 32 stored bits. -/
def execRoscStatusR (s : State) : Host.Outcome State Fault Refusal :=
  readRegister .rosc RoscReg.status.offset s.block.rosc.status s

/-- ROSC.STATUS.W (R194): all 32 bits are stored, with no other effect (R197). -/
def execRoscStatusW (v : Word) (s : State) : Host.Outcome State Fault Refusal :=
  writeRegister .rosc RoscReg.status.offset v (s.setRosc { s.block.rosc with status := v })

/-- ROSC.RANDOMBIT.R (R195): a fresh draw under the mask. -/
def execRoscRandombitR (s : State) : Host.Outcome State Fault Refusal :=
  readRegister .rosc RoscReg.randombit.offset (Config.draw (s.draws + 1) &&& s.randombitMask) (s.takeDraws 1)

/-- ROSC.RANDOMBIT.W (R196): the write is ignored and consumes no draw. -/
def execRoscRandombitW (v : Word) (s : State) : Host.Outcome State Fault Refusal :=
  writeRegister .rosc RoscReg.randombit.offset v s

end Sys2Proof.Machine
end

