-- ==== Sys2Proof/Machine/Sha256.lean ====
section
/-! DEFINITION. The meanings of the SHA-256 register operations (spec/41_sha256.md R141 to R147). -/

namespace Sys2Proof.Machine

/-- SHA256.CSR.R (R141): the composite of its fields. -/
def execSha256CsrR (s : State) : Host.Outcome State Fault Refusal :=
  readRegister .sha ShaReg.csr.offset (csrValue s.block.sha) s

/-- SHA256.CSR.W (R142): DMA_SIZE and BSWAP are stored, then `v[0] = 1` starts. -/
def execSha256CsrW (v : Word) (s : State) : Host.Outcome State Fault Refusal :=
  writeRegister .sha ShaReg.csr.offset v (s.setSha (s.block.sha.writeCsr v))

/-- SHA256.WDATA.R (R145): a write-only register reads 0. -/
def execSha256WdataR (s : State) : Host.Outcome State Fault Refusal :=
  readRegister .sha ShaReg.wdata.offset zeroValue s

/-- SHA256.WDATA.W (R144): the word is queued; the sixteenth compresses the block. -/
def execSha256WdataW (v : Word) (s : State) : Host.Outcome State Fault Refusal :=
  writeRegister .sha ShaReg.wdata.offset v (s.setSha (s.block.sha.push v))

/-- SHA256.SUM0.R (R146): the raw hash word, whatever BSWAP holds. -/
def execSha256Sum0R (s : State) : Host.Outcome State Fault Refusal :=
  readRegister .sha ShaReg.sum0.offset s.block.sha.h[0] s

/-- SHA256.SUM0.W (R147): the write is ignored. -/
def execSha256Sum0W (v : Word) (s : State) : Host.Outcome State Fault Refusal :=
  writeRegister .sha ShaReg.sum0.offset v s

/-- SHA256.SUM1.R (R146): the raw hash word, whatever BSWAP holds. -/
def execSha256Sum1R (s : State) : Host.Outcome State Fault Refusal :=
  readRegister .sha ShaReg.sum1.offset s.block.sha.h[1] s

/-- SHA256.SUM1.W (R147): the write is ignored. -/
def execSha256Sum1W (v : Word) (s : State) : Host.Outcome State Fault Refusal :=
  writeRegister .sha ShaReg.sum1.offset v s

/-- SHA256.SUM2.R (R146): the raw hash word, whatever BSWAP holds. -/
def execSha256Sum2R (s : State) : Host.Outcome State Fault Refusal :=
  readRegister .sha ShaReg.sum2.offset s.block.sha.h[2] s

/-- SHA256.SUM2.W (R147): the write is ignored. -/
def execSha256Sum2W (v : Word) (s : State) : Host.Outcome State Fault Refusal :=
  writeRegister .sha ShaReg.sum2.offset v s

/-- SHA256.SUM3.R (R146): the raw hash word, whatever BSWAP holds. -/
def execSha256Sum3R (s : State) : Host.Outcome State Fault Refusal :=
  readRegister .sha ShaReg.sum3.offset s.block.sha.h[3] s

/-- SHA256.SUM3.W (R147): the write is ignored. -/
def execSha256Sum3W (v : Word) (s : State) : Host.Outcome State Fault Refusal :=
  writeRegister .sha ShaReg.sum3.offset v s

/-- SHA256.SUM4.R (R146): the raw hash word, whatever BSWAP holds. -/
def execSha256Sum4R (s : State) : Host.Outcome State Fault Refusal :=
  readRegister .sha ShaReg.sum4.offset s.block.sha.h[4] s

/-- SHA256.SUM4.W (R147): the write is ignored. -/
def execSha256Sum4W (v : Word) (s : State) : Host.Outcome State Fault Refusal :=
  writeRegister .sha ShaReg.sum4.offset v s

/-- SHA256.SUM5.R (R146): the raw hash word, whatever BSWAP holds. -/
def execSha256Sum5R (s : State) : Host.Outcome State Fault Refusal :=
  readRegister .sha ShaReg.sum5.offset s.block.sha.h[5] s

/-- SHA256.SUM5.W (R147): the write is ignored. -/
def execSha256Sum5W (v : Word) (s : State) : Host.Outcome State Fault Refusal :=
  writeRegister .sha ShaReg.sum5.offset v s

/-- SHA256.SUM6.R (R146): the raw hash word, whatever BSWAP holds. -/
def execSha256Sum6R (s : State) : Host.Outcome State Fault Refusal :=
  readRegister .sha ShaReg.sum6.offset s.block.sha.h[6] s

/-- SHA256.SUM6.W (R147): the write is ignored. -/
def execSha256Sum6W (v : Word) (s : State) : Host.Outcome State Fault Refusal :=
  writeRegister .sha ShaReg.sum6.offset v s

/-- SHA256.SUM7.R (R146): the raw hash word, whatever BSWAP holds. -/
def execSha256Sum7R (s : State) : Host.Outcome State Fault Refusal :=
  readRegister .sha ShaReg.sum7.offset s.block.sha.h[7] s

/-- SHA256.SUM7.W (R147): the write is ignored. -/
def execSha256Sum7W (v : Word) (s : State) : Host.Outcome State Fault Refusal :=
  writeRegister .sha ShaReg.sum7.offset v s

end Sys2Proof.Machine
end

