-- ==== Sys2Proof/Machine/Sharing.lean ====
section
/-! DEFINITION. The XOR secret-sharing transform (spec/45_secret_sharing.md R240 to R245) as functions of the input and of the
draws, which are free (spec/00_scope.md R9). -/

namespace Sys2Proof.Machine

/-- `drawBytes(n)` as the k-th draw (R8). -/
def drawBytes (k n : Nat) : List Byte := (List.range n).map (Config.drawByte k)

/-- The shares of `n` key words: `a ++ b ++ c ++ d` a word, with draws `j`, `j+1`, `j+2` of `share` as `a`, `b`, `c` and
`d = w ⊕ a ⊕ b ⊕ c` (R240, R241). -/
def splitWords (share : Nat → List Byte) : Nat → Nat → List Byte → List Byte
  | 0, _, _ => []
  | n + 1, j, key =>
    share j ++ share (j + 1) ++ share (j + 2)
      ++ xorBytes (xorBytes (xorBytes (key.take 4) (share j)) (share (j + 1))) (share (j + 2))
      ++ splitWords share n (j + 3) (key.drop 4)

/-- `splitKey(key)` for a key of 32 bytes, the 4-byte draws being `share 0`, `share 1`, … (R240, D35). -/
def splitKeyWith (share : Nat → List Byte) (key : List Byte) : List Byte := splitWords share Config.keyWords 0 key

/-- `splitIV(iv)` for an IV of 16 bytes with the 16-byte draw `shareA` (R242, D35). -/
def splitIVWith (shareA iv : List Byte) : List Byte × List Byte := (shareA, xorBytes iv shareA)

/-- The key words of `n` groups of four shares (R244). -/
def joinWords : Nat → List Byte → List Byte
  | 0, _ => []
  | n + 1, shares =>
    xorBytes (xorBytes (xorBytes (shares.take 4) ((shares.drop 4).take 4)) ((shares.drop 8).take 4)) ((shares.drop 12).take 4)
      ++ joinWords n (shares.drop 16)

/-- `joinKey(shares)` for 128 bytes of shares (R244). -/
def joinKeyBytes (shares : List Byte) : List Byte := joinWords Config.keyWords shares

end Sys2Proof.Machine
end

