-- ==== Sys2Proof/Machine/Share.lean ====
section
/-! DEFINITION. The meanings of the host functions of the secret-sharing transform (spec/45_secret_sharing.md R240, R242, R244).
Their shares are draws of the invocation (spec/00_scope.md R9; notes/assumptions/3.md); a wrong length is an error result, not a
bus fault, and consumes no draw (R245; notes/assumptions/15.md). -/

namespace Sys2Proof.Machine

/-- SHARE.splitKey (R240): 24 draws of 4 bytes, `a`, `b`, `c` a word, word 0 first. -/
def execShareSplitKey (key : List Byte) (s : State) : Host.Outcome State Fault Refusal :=
  if key.length = Config.keyBytes then
    .next ((s.takeDraws 24).answer (.bytes (splitKeyWith (fun j => drawBytes (s.draws + 1 + j) 4) key)))
  else .next (s.answer (.error .inputLengthSplitKey))

/-- SHARE.splitIV (R242): `shareA` is one draw of 16 bytes. -/
def execShareSplitIV (iv : List Byte) (s : State) : Host.Outcome State Fault Refusal :=
  if iv.length = Config.ivBytes then
    let pair := splitIVWith (drawBytes (s.draws + 1) 16) iv
    .next ((s.takeDraws 1).answer (.sharePair pair.1 pair.2))
  else .next (s.answer (.error .inputLengthSplitIV))

/-- SHARE.joinKey (R244): the XOR of the four shares of each word; it draws nothing. -/
def execShareJoinKey (shares : List Byte) (s : State) : Host.Outcome State Fault Refusal :=
  if shares.length = Config.keyShareBytes then .next (s.answer (.bytes (joinKeyBytes shares)))
  else .next (s.answer (.error .inputLengthJoinKey))

end Sys2Proof.Machine
end

