-- ==== Sys2Proof/Machine/Trng.lean ====
section
/-! DEFINITION. The meanings of the TRNG register operations (spec/40_trng.md R104 to R125). -/

namespace Sys2Proof.Machine

/-- TRNG.RNG_IMR.R (R104): all 32 stored bits. -/
def execTrngRngImrR (s : State) : Host.Outcome State Fault Refusal :=
  readRegister .trng TrngReg.rngImr.offset s.block.trng.imr s

/-- TRNG.RNG_IMR.W (R105): all 32 bits are stored. -/
def execTrngRngImrW (v : Word) (s : State) : Host.Outcome State Fault Refusal :=
  writeRegister .trng TrngReg.rngImr.offset v (s.setTrng { s.block.trng with imr := v })

/-- TRNG.RNG_ISR.R (R106): EHR_VALID reads 1 and every error status 0. -/
def execTrngRngIsrR (s : State) : Host.Outcome State Fault Refusal :=
  readRegister .trng TrngReg.rngIsr.offset rngIsrValue s

/-- TRNG.RNG_ISR.W (R107): the write is ignored. -/
def execTrngRngIsrW (v : Word) (s : State) : Host.Outcome State Fault Refusal :=
  writeRegister .trng TrngReg.rngIsr.offset v s

/-- TRNG.RNG_ICR.R (R109): a write-only register reads 0. -/
def execTrngRngIcrR (s : State) : Host.Outcome State Fault Refusal :=
  readRegister .trng TrngReg.rngIcr.offset zeroValue s

/-- TRNG.RNG_ICR.W (R108): `v[0] = 1` refreshes the pool. -/
def execTrngRngIcrW (v : Word) (s : State) : Host.Outcome State Fault Refusal :=
  writeRegister .trng TrngReg.rngIcr.offset v (if actionBit v then s.refresh else s)

/-- TRNG.TRNG_CONFIG.R (R110): all 32 stored bits. -/
def execTrngTrngConfigR (s : State) : Host.Outcome State Fault Refusal :=
  readRegister .trng TrngReg.trngConfig.offset s.block.trng.config s

/-- TRNG.TRNG_CONFIG.W (R111): all 32 bits are stored. -/
def execTrngTrngConfigW (v : Word) (s : State) : Host.Outcome State Fault Refusal :=
  writeRegister .trng TrngReg.trngConfig.offset v (s.setTrng { s.block.trng with config := v })

/-- TRNG.TRNG_VALID.R (R112): always ready. -/
def execTrngTrngValidR (s : State) : Host.Outcome State Fault Refusal :=
  readRegister .trng TrngReg.trngValid.offset trngValidValue s

/-- TRNG.TRNG_VALID.W (R113): the write is ignored. -/
def execTrngTrngValidW (v : Word) (s : State) : Host.Outcome State Fault Refusal :=
  writeRegister .trng TrngReg.trngValid.offset v s

/-- TRNG.EHR_DATA0.R (R114): the pool word; the read does not refresh (R101). -/
def execTrngEhrData0R (s : State) : Host.Outcome State Fault Refusal :=
  readRegister .trng TrngReg.ehrData0.offset s.block.trng.pool[0] s

/-- TRNG.EHR_DATA0.W (R115): the write is ignored. -/
def execTrngEhrData0W (v : Word) (s : State) : Host.Outcome State Fault Refusal :=
  writeRegister .trng TrngReg.ehrData0.offset v s

/-- TRNG.EHR_DATA1.R (R114): the pool word; the read does not refresh (R101). -/
def execTrngEhrData1R (s : State) : Host.Outcome State Fault Refusal :=
  readRegister .trng TrngReg.ehrData1.offset s.block.trng.pool[1] s

/-- TRNG.EHR_DATA1.W (R115): the write is ignored. -/
def execTrngEhrData1W (v : Word) (s : State) : Host.Outcome State Fault Refusal :=
  writeRegister .trng TrngReg.ehrData1.offset v s

/-- TRNG.EHR_DATA2.R (R114): the pool word; the read does not refresh (R101). -/
def execTrngEhrData2R (s : State) : Host.Outcome State Fault Refusal :=
  readRegister .trng TrngReg.ehrData2.offset s.block.trng.pool[2] s

/-- TRNG.EHR_DATA2.W (R115): the write is ignored. -/
def execTrngEhrData2W (v : Word) (s : State) : Host.Outcome State Fault Refusal :=
  writeRegister .trng TrngReg.ehrData2.offset v s

/-- TRNG.EHR_DATA3.R (R114): the pool word; the read does not refresh (R101). -/
def execTrngEhrData3R (s : State) : Host.Outcome State Fault Refusal :=
  readRegister .trng TrngReg.ehrData3.offset s.block.trng.pool[3] s

/-- TRNG.EHR_DATA3.W (R115): the write is ignored. -/
def execTrngEhrData3W (v : Word) (s : State) : Host.Outcome State Fault Refusal :=
  writeRegister .trng TrngReg.ehrData3.offset v s

/-- TRNG.EHR_DATA4.R (R114): the pool word; the read does not refresh (R101). -/
def execTrngEhrData4R (s : State) : Host.Outcome State Fault Refusal :=
  readRegister .trng TrngReg.ehrData4.offset s.block.trng.pool[4] s

/-- TRNG.EHR_DATA4.W (R115): the write is ignored. -/
def execTrngEhrData4W (v : Word) (s : State) : Host.Outcome State Fault Refusal :=
  writeRegister .trng TrngReg.ehrData4.offset v s

/-- TRNG.EHR_DATA5.R (R114): the pool word; the read does not refresh (R101). -/
def execTrngEhrData5R (s : State) : Host.Outcome State Fault Refusal :=
  readRegister .trng TrngReg.ehrData5.offset s.block.trng.pool[5] s

/-- TRNG.EHR_DATA5.W (R115): the write is ignored. -/
def execTrngEhrData5W (v : Word) (s : State) : Host.Outcome State Fault Refusal :=
  writeRegister .trng TrngReg.ehrData5.offset v s

/-- TRNG.RND_SOURCE_ENABLE.R (R117): all 32 stored bits. -/
def execTrngRndSourceEnableR (s : State) : Host.Outcome State Fault Refusal :=
  readRegister .trng TrngReg.rndSourceEnable.offset s.block.trng.srcEnable s

/-- TRNG.RND_SOURCE_ENABLE.W (R116): the value is stored, and `v[0] = 1` refreshes the pool, also when the source was enabled. -/
def execTrngRndSourceEnableW (v : Word) (s : State) : Host.Outcome State Fault Refusal :=
  let s' := s.setTrng { s.block.trng with srcEnable := v }
  writeRegister .trng TrngReg.rndSourceEnable.offset v (if actionBit v then s'.refresh else s')

/-- TRNG.SAMPLE_CNT1.R (R118): all 32 stored bits. -/
def execTrngSampleCnt1R (s : State) : Host.Outcome State Fault Refusal :=
  readRegister .trng TrngReg.sampleCnt1.offset s.block.trng.sampleCnt1 s

/-- TRNG.SAMPLE_CNT1.W (R119): all 32 bits are stored. -/
def execTrngSampleCnt1W (v : Word) (s : State) : Host.Outcome State Fault Refusal :=
  writeRegister .trng TrngReg.sampleCnt1.offset v (s.setTrng { s.block.trng with sampleCnt1 := v })

/-- TRNG.TRNG_DEBUG_CONTROL.R (R120): all 32 stored bits. -/
def execTrngTrngDebugControlR (s : State) : Host.Outcome State Fault Refusal :=
  readRegister .trng TrngReg.trngDebugControl.offset s.block.trng.debugControl s

/-- TRNG.TRNG_DEBUG_CONTROL.W (R121): all 32 bits are stored. -/
def execTrngTrngDebugControlW (v : Word) (s : State) : Host.Outcome State Fault Refusal :=
  writeRegister .trng TrngReg.trngDebugControl.offset v (s.setTrng { s.block.trng with debugControl := v })

/-- TRNG.TRNG_SW_RESET.R (R123): the reset is never observed as pending. -/
def execTrngTrngSwResetR (s : State) : Host.Outcome State Fault Refusal :=
  readRegister .trng TrngReg.trngSwReset.offset zeroValue s

/-- TRNG.TRNG_SW_RESET.W (R122): `v[0] = 1` re-initialises the TRNG. -/
def execTrngTrngSwResetW (v : Word) (s : State) : Host.Outcome State Fault Refusal :=
  writeRegister .trng TrngReg.trngSwReset.offset v (if actionBit v then s.reinitTrng else s)

/-- TRNG.TRNG_BUSY.R (R124): never busy. -/
def execTrngTrngBusyR (s : State) : Host.Outcome State Fault Refusal :=
  readRegister .trng TrngReg.trngBusy.offset trngBusyValue s

/-- TRNG.TRNG_BUSY.W (R125): the write is ignored. -/
def execTrngTrngBusyW (v : Word) (s : State) : Host.Outcome State Fault Refusal :=
  writeRegister .trng TrngReg.trngBusy.offset v s

end Sys2Proof.Machine
end

