-- ==== Sys2Proof/Machine/Dispatch.lean ====
section
/-! DEFINITION. The meaning of every instruction, one arm a constructor of `Instr`. -/

namespace Sys2Proof.Machine

def exec (i : Instr) (s : State) : Host.Outcome State Fault Refusal :=
  match i with
  | .trngRngImrR => Sys2Proof.Machine.execTrngRngImrR s
  | .trngRngImrW v => Sys2Proof.Machine.execTrngRngImrW v s
  | .trngRngIsrR => Sys2Proof.Machine.execTrngRngIsrR s
  | .trngRngIsrW v => Sys2Proof.Machine.execTrngRngIsrW v s
  | .trngRngIcrR => Sys2Proof.Machine.execTrngRngIcrR s
  | .trngRngIcrW v => Sys2Proof.Machine.execTrngRngIcrW v s
  | .trngTrngConfigR => Sys2Proof.Machine.execTrngTrngConfigR s
  | .trngTrngConfigW v => Sys2Proof.Machine.execTrngTrngConfigW v s
  | .trngTrngValidR => Sys2Proof.Machine.execTrngTrngValidR s
  | .trngTrngValidW v => Sys2Proof.Machine.execTrngTrngValidW v s
  | .trngEhrData0R => Sys2Proof.Machine.execTrngEhrData0R s
  | .trngEhrData0W v => Sys2Proof.Machine.execTrngEhrData0W v s
  | .trngEhrData1R => Sys2Proof.Machine.execTrngEhrData1R s
  | .trngEhrData1W v => Sys2Proof.Machine.execTrngEhrData1W v s
  | .trngEhrData2R => Sys2Proof.Machine.execTrngEhrData2R s
  | .trngEhrData2W v => Sys2Proof.Machine.execTrngEhrData2W v s
  | .trngEhrData3R => Sys2Proof.Machine.execTrngEhrData3R s
  | .trngEhrData3W v => Sys2Proof.Machine.execTrngEhrData3W v s
  | .trngEhrData4R => Sys2Proof.Machine.execTrngEhrData4R s
  | .trngEhrData4W v => Sys2Proof.Machine.execTrngEhrData4W v s
  | .trngEhrData5R => Sys2Proof.Machine.execTrngEhrData5R s
  | .trngEhrData5W v => Sys2Proof.Machine.execTrngEhrData5W v s
  | .trngRndSourceEnableR => Sys2Proof.Machine.execTrngRndSourceEnableR s
  | .trngRndSourceEnableW v => Sys2Proof.Machine.execTrngRndSourceEnableW v s
  | .trngSampleCnt1R => Sys2Proof.Machine.execTrngSampleCnt1R s
  | .trngSampleCnt1W v => Sys2Proof.Machine.execTrngSampleCnt1W v s
  | .trngTrngDebugControlR => Sys2Proof.Machine.execTrngTrngDebugControlR s
  | .trngTrngDebugControlW v => Sys2Proof.Machine.execTrngTrngDebugControlW v s
  | .trngTrngSwResetR => Sys2Proof.Machine.execTrngTrngSwResetR s
  | .trngTrngSwResetW v => Sys2Proof.Machine.execTrngTrngSwResetW v s
  | .trngTrngBusyR => Sys2Proof.Machine.execTrngTrngBusyR s
  | .trngTrngBusyW v => Sys2Proof.Machine.execTrngTrngBusyW v s
  | .sha256CsrR => Sys2Proof.Machine.execSha256CsrR s
  | .sha256CsrW v => Sys2Proof.Machine.execSha256CsrW v s
  | .sha256WdataR => Sys2Proof.Machine.execSha256WdataR s
  | .sha256WdataW v => Sys2Proof.Machine.execSha256WdataW v s
  | .sha256Sum0R => Sys2Proof.Machine.execSha256Sum0R s
  | .sha256Sum0W v => Sys2Proof.Machine.execSha256Sum0W v s
  | .sha256Sum1R => Sys2Proof.Machine.execSha256Sum1R s
  | .sha256Sum1W v => Sys2Proof.Machine.execSha256Sum1W v s
  | .sha256Sum2R => Sys2Proof.Machine.execSha256Sum2R s
  | .sha256Sum2W v => Sys2Proof.Machine.execSha256Sum2W v s
  | .sha256Sum3R => Sys2Proof.Machine.execSha256Sum3R s
  | .sha256Sum3W v => Sys2Proof.Machine.execSha256Sum3W v s
  | .sha256Sum4R => Sys2Proof.Machine.execSha256Sum4R s
  | .sha256Sum4W v => Sys2Proof.Machine.execSha256Sum4W v s
  | .sha256Sum5R => Sys2Proof.Machine.execSha256Sum5R s
  | .sha256Sum5W v => Sys2Proof.Machine.execSha256Sum5W v s
  | .sha256Sum6R => Sys2Proof.Machine.execSha256Sum6R s
  | .sha256Sum6W v => Sys2Proof.Machine.execSha256Sum6W v s
  | .sha256Sum7R => Sys2Proof.Machine.execSha256Sum7R s
  | .sha256Sum7W v => Sys2Proof.Machine.execSha256Sum7W v s
  | .roscCtrlR => Sys2Proof.Machine.execRoscCtrlR s
  | .roscCtrlW v => Sys2Proof.Machine.execRoscCtrlW v s
  | .roscFreqaR => Sys2Proof.Machine.execRoscFreqaR s
  | .roscFreqaW v => Sys2Proof.Machine.execRoscFreqaW v s
  | .roscFreqbR => Sys2Proof.Machine.execRoscFreqbR s
  | .roscFreqbW v => Sys2Proof.Machine.execRoscFreqbW v s
  | .roscDormantR => Sys2Proof.Machine.execRoscDormantR s
  | .roscDormantW v => Sys2Proof.Machine.execRoscDormantW v s
  | .roscDivR => Sys2Proof.Machine.execRoscDivR s
  | .roscDivW v => Sys2Proof.Machine.execRoscDivW v s
  | .roscPhaseR => Sys2Proof.Machine.execRoscPhaseR s
  | .roscPhaseW v => Sys2Proof.Machine.execRoscPhaseW v s
  | .roscStatusR => Sys2Proof.Machine.execRoscStatusR s
  | .roscStatusW v => Sys2Proof.Machine.execRoscStatusW v s
  | .roscRandombitR => Sys2Proof.Machine.execRoscRandombitR s
  | .roscRandombitW v => Sys2Proof.Machine.execRoscRandombitW v s
  | .resetsResetR => Sys2Proof.Machine.execResetsResetR s
  | .resetsResetW v => Sys2Proof.Machine.execResetsResetW v s
  | .resetsUnknownR off => Sys2Proof.Machine.execResetsUnknownR off s
  | .resetsUnknownW off v => Sys2Proof.Machine.execResetsUnknownW off v s
  | .roscUnknownR off => Sys2Proof.Machine.execRoscUnknownR off s
  | .roscUnknownW off v => Sys2Proof.Machine.execRoscUnknownW off v s
  | .trngUnknownR off => Sys2Proof.Machine.execTrngUnknownR off s
  | .trngUnknownW off v => Sys2Proof.Machine.execTrngUnknownW off v s
  | .sha256UnknownR off => Sys2Proof.Machine.execSha256UnknownR off s
  | .sha256UnknownW off v => Sys2Proof.Machine.execSha256UnknownW off v s
  | .windowUnmappedR a => Sys2Proof.Machine.execWindowUnmappedR a s
  | .windowUnmappedW a v => Sys2Proof.Machine.execWindowUnmappedW a v s
  | .refuseFetch _ a => Sys2Proof.Machine.execRefuseFetch a s
  | .refuseReservedKind _ a => Sys2Proof.Machine.execRefuseReservedKind a s
  | .refuseReservedSize _ a => Sys2Proof.Machine.execRefuseReservedSize a s
  | .refuseSubword _ half a => Sys2Proof.Machine.execRefuseSubword half a s
  | .refuseMisalignedOdd _ a => Sys2Proof.Machine.execRefuseMisalignedOdd a s
  | .refuseMisalignedHalf _ a => Sys2Proof.Machine.execRefuseMisalignedHalf a s
  | .outsideWindow t => Sys2Proof.Machine.execOutsideWindow t s
  | .shareSplitKey key => Sys2Proof.Machine.execShareSplitKey key s
  | .shareSplitIV iv => Sys2Proof.Machine.execShareSplitIV iv s
  | .shareJoinKey shares => Sys2Proof.Machine.execShareJoinKey shares s

end Sys2Proof.Machine
end

