-- ==== Sys2Proof/Machine/Trap.lean ====
section
/-! DEFINITION. The capability through which the CPU engine reaches the dispatcher (spec/44_dispatcher.md R230, R231), and the
head of the request list as one outcome. -/

namespace Sys2Proof.Machine

/-- What `onAccess` returns to the CPU engine (R231): a trap on an admitted transaction is handled and emulation continues, the
unmapped-access trap aborts it (R230). -/
inductive TrapReply where
  | handled
  | fault
  deriving DecidableEq, Repr

/-- The reply that goes with a transaction's outcome. A refused transaction is outside the contract and has none (R230). An access
that a region of the harness serves raises no callback (R227, R268), so it has none either: DEDUCED, notes/assumptions/24.md. -/
def trapReply (t : Transaction) (o : Host.Outcome State Fault Refusal) : Option TrapReply :=
  match o with
  | .next _ => if inWindow t.addr then some .handled else none
  | .fault _ => some .fault
  | .refused _ => none

/-- `onAccess(kind, address, size, value)` (R231); `none` where no reply is given (notes/assumptions/24.md). -/
def onAccess (t : Transaction) (s : State) : Option TrapReply := trapReply t (exec (decode t) s)

/-- The fault outcome of a fault the CPU engine reports of itself (R262, R264). -/
def engineFaultOf (e : EngineFault) (s : State) : Fault :=
  match e with
  | .illegalInstruction => .illegalInstruction s.pc
  | .internalError => .engineInternalError s.pc

/-- The state once its oldest request is taken. -/
def State.takeRequest (s : State) : State := { s with requests := s.requests.tail }

/-- The outcome of one request: an operation is decoded and executed, an engine fault ends the run (R10, R262). -/
def serve (r : Request) (s : State) : Host.Outcome State Fault Refusal :=
  match r with
  | .op o => exec (decodeOperation o) s
  | .engineFault e => .fault (engineFaultOf e s)

/-- The state in which a request is the next one to be taken. -/
def State.present (s : State) (r : Request) : State := { s with requests := r :: s.requests }

end Sys2Proof.Machine
end

