-- ==== Sys2Proof/Machine/Step.lean ====
section
/-! DEFINITION. One step of the machine: one request of the outside, taken in order (spec/00_scope.md R10, spec/10_state.md R21,
spec/20_memory.md R70). -/

namespace Sys2Proof.Machine

/-- One step takes the oldest request and serves it. With no request the block waits: nothing happens without a transaction (R21;
notes/assumptions/1.md). -/
def step (s : State) : Host.Outcome State Fault Refusal :=
  match s.requests with
  | [] => .next s
  | r :: _ => serve r s.takeRequest

/-- The state in which the next step takes the transaction of a word of spec/opcode_table.json; a word that is no transaction is
not presented. -/
def State.withFetchWord (s : State) (nbits w : Nat) : State :=
  match tableTransaction nbits w with
  | some t => s.present (.op (.bus t))
  | none => s

end Sys2Proof.Machine
end

