-- ==== Sys2Proof/Safety.lean ====
section
/-! DEFINITION. The words claims are stated in: what a read and a write leave, which peripheral an instruction belongs to, runs of
several instructions, the invariant of the reachable states, and the history of the SHA-256 accelerator. Nothing here is part of
the machine. -/

namespace Sys2Proof.Machine

/-- From the memory `m` a word is stored at `a`: the four bytes there are its bytes, the least significant lowest (R63), and every
other byte reads as before. -/
def StoresWord (m : Memory) (a v : Word) (m' : Memory) : Prop :=
  m'.readBytes a.toNat 4 = [v.extractLsb' 0 8, v.extractLsb' 8 8, v.extractLsb' 16 8, v.extractLsb' 24 8] ∧
    ∀ x, x < a.toNat ∨ a.toNat + 4 ≤ x → m'.read x = m.read x

/-- The instruction completes as a read at `a` that returns `v` and changes nothing else: the state is as before but for the
answer and the trap's four bytes of the emulator's memory (R223, R228). -/
def ReadAnswers (i : Instr) (a v : Word) (s : State) : Prop :=
  ∃ m, StoresWord s.mem a v m ∧ exec i s = .next { s with response := .value v, mem := m }

/-- The instruction completes as a write of `v` at `a` that leaves the block state `b` after `n` draws: all else is as before but
for the answer and the four bytes of the store (R224, R229). -/
def WriteLeaves (i : Instr) (a v : Word) (b : Block) (n : Nat) (s : State) : Prop :=
  ∃ m, StoresWord s.mem a v m ∧ exec i s = .next { s with block := b, draws := s.draws + n, response := .done, mem := m }

/-- The peripheral a well-formed instruction is an admitted transaction to, if it reaches one (R11, R226): a word-aligned word
access in the window, at an address of its region. -/
def ownerOf (i : Instr) : Option Periph :=
  match encode i with
  | .bus ⟨.data _, size, a⟩ => if i.wf && inWindow a && size == 2#2 && aligned a then regionOf a else none
  | _ => none

/-- Two block states agree on one peripheral. -/
def Block.agreeOn (p : Periph) (b c : Block) : Prop :=
  match p with
  | .trng => b.trng = c.trng
  | .sha => b.sha = c.sha
  | .rosc => b.rosc = c.rosc
  | .resets => b.resets = c.resets

/-- Several instructions one after the other, stopping at the first fault or refusal. -/
def execAll : List Instr → State → Host.Outcome State Fault Refusal
  | [], s => .next s
  | i :: is, s =>
    match exec i s with
    | .next t => execAll is t
    | .fault r => .fault r
    | .refused r => .refused r

/-- A run of `k` steps that meets no fault and no refusal: claims about a run hold for such runs only (R263). -/
def runsSafely : Nat → State → Bool
  | 0, _ => true
  | k + 1, s =>
    match step s with
    | .next t => runsSafely k t
    | .fault _ => false
    | .refused _ => false

/-- The invariant of the reachable states: the memory is in canonical form, at most fifteen words are queued (R32), and SUM_VLD
holds exactly when no word is queued (R44, D17). -/
def State.Inv (s : State) : Prop :=
  s.mem.wf = true ∧ s.block.sha.queue.length ≤ 15 ∧ s.block.sha.sumVld = s.block.sha.queue.isEmpty

/-- What was written to WDATA since the last START or re-initialisation (R33): the complete blocks as message words, and the words
after the last of them as they were written. -/
structure ShaHistory where
  blocks : List (List Word)
  rest : List Word
  deriving DecidableEq, Repr

/-- The history once one more word is written while the BSWAP control is `bswap` (R144, R148). -/
def ShaHistory.word (x : ShaHistory) (bswap : Bool) (v : Word) : ShaHistory :=
  if x.rest.length = 15 then { blocks := x.blocks ++ [(x.rest ++ [v]).map fun w => if bswap then bswap32 w else w], rest := [] }
  else { x with rest := x.rest ++ [v] }

/-- The history after an instruction: a WDATA write adds a word, a START and a release of the accelerator from reset begin anew,
nothing else counts (R33, R292). -/
def ShaHistory.after (x : ShaHistory) (i : Instr) (s : State) : ShaHistory :=
  match i with
  | .sha256WdataW v => x.word s.block.sha.bswap v
  | .sha256CsrW v => if v.getLsbD 0 then { blocks := [], rest := [] } else x
  | .resetsResetW v => if s.block.resets.reset.getLsbD 17 && !v.getLsbD 17 then { blocks := [], rest := [] } else x
  | _ => x

/-- The accelerator holds what its history says: `h` is the compression of the complete blocks in order from `H0`, the queue the
words after them (R33). -/
def ShaHistory.matches (x : ShaHistory) (sha : Sha) : Prop :=
  sha.h = x.blocks.foldl compress hashInit ∧ sha.queue = x.rest ∧ x.rest.length ≤ 15

/-- The complete sixteen-word blocks of a list of words, in order; `n` of them. -/
def wordBlocks : Nat → List Word → List (List Word)
  | 0, _ => []
  | n + 1, ws => ws.take 16 :: wordBlocks n (ws.drop 16)

end Sys2Proof.Machine
end

