-- ==== Sys2Proof/Certificates/Slice0/Obligations.lean ====
section
/-! DEFINITION. The statements for the provers. Each docstring names the rule of spec/ it formalises. Addresses are written out
from the register maps of spec/10_state.md, so that a wrong base or offset in the model makes a statement false. -/

open Sys2Proof Sys2Proof.Machine

/-! ## Encoding and decoding -/

/-- Twelve words and a host call, written out from spec/opcode_table.json, decode to the instructions of their rows (R81, R85): at least
one of every family. That a write's value stands above the 40 bits of its key is the model's choice, notes/assumptions/17.md. -/
def Obligations.SampleKeysDecodeToTheirRows : Prop :=
  decodeTableWord 40 0x2400F0100 = some .trngRngImrR ∧
  decodeTableWord 40 0x2400F0128 = some .trngEhrData5R ∧
  decodeTableWord 40 0x6400F0108 = some (.trngRngIcrW 0#32) ∧
  decodeTableWord 72 0x1234567806400F8004 = some (.sha256WdataW 0x12345678#32) ∧
  decodeTableWord 40 0x2400F8024 = some .sha256Sum7R ∧
  decodeTableWord 40 0x2400E8020 = some .roscRandombitR ∧
  decodeTableWord 72 0x1DFDFFFF0640020000 = some (.resetsResetW 0x1DFDFFFF#32) ∧
  decodeTableWord 40 0x2400F0134 = some (.trngUnknownR 0x134#12) ∧
  decodeTableWord 40 0x240030000 = some (.windowUnmappedR 0x40030000#32) ∧
  decodeTableWord 40 0xA400F8000 = some (.refuseFetch 2#2 0x400F8000#32) ∧
  decodeTableWord 40 0x1400F0110 = some (.refuseSubword .read true 0x400F0110#32) ∧
  decodeTableWord 40 0x250000000 = some (.outsideWindow ⟨.data .read, 2#2, 0x50000000#32⟩) ∧
  decodeOperation (.host (.joinKey [1#8])) = .shareJoinKey [1#8]

/-- Decoding what a well-formed instruction is encoded to gives the instruction back, for every instruction and every operand
(R80, R81, R83). -/
def Obligations.DecodingUndoesEncoding : Prop :=
  ∀ i : Instr, i.wf = true → decodeOperation (encode i) = i

/-- Every operation decodes to a well-formed instruction that encodes back to it: no bit of a transaction is dropped (R80 to
R84). -/
def Obligations.EncodingUndoesDecoding : Prop :=
  ∀ o : Operation, (decodeOperation o).wf = true ∧ encode (decodeOperation o) = o

/-- The bytes of a transaction, with any bytes after them, decode to its instruction and leave those bytes (R80; the byte layout
is the model's choice, notes/assumptions/17.md). -/
def Obligations.TransactionBytesDecodeToTheInstruction : Prop :=
  ∀ (t : Transaction) (rest : List Byte), decodeBytes (t.toBytes ++ rest) = .ok (decode t, rest)

/-- The decoder takes, for every transaction, the matching row of lowest priority of the opcode table, and no other row of that
priority matches (R84). -/
def Obligations.DecoderTakesTheMatchingRowOfLowestPriority : Prop :=
  ∀ t : Transaction, ∃ r ∈ opcodeRows, r.selects t.key = true ∧ r.mnemonic = (decode t).mnemonic ∧
    ∀ q ∈ opcodeRows, q.selects t.key = true → r.priority ≤ q.priority ∧ (q.priority = r.priority → q = r)

/-- An address falls in at most one region (R61). -/
def Obligations.AnAddressFallsInAtMostOneRegion : Prop :=
  ∀ (a : Word) (p q : Periph), p.holds a = true → q.holds a = true → p = q

/-! ## Step, reset and the invariant -/

/-- A step takes the oldest request and is `exec` of its instruction on the state without that request; with no request the block
waits (R10, R21; waiting is the model's choice, notes/assumptions/1.md). -/
def Obligations.StepRunsTheDecodedInstruction : Prop :=
  (∀ (s : State) (o : Operation) (rest : List Request), s.requests = .op o :: rest →
    step s = exec (decodeOperation o) { s with requests := rest }) ∧
  (∀ (s : State) (i : Instr) (rest : List Request), i.wf = true → s.requests = .op (encode i) :: rest →
    step s = exec i { s with requests := rest }) ∧
  (∀ s : State, s.requests = [] → step s = .next s)

/-- The step after a table word is presented runs the instruction that word decodes to, on the state as it was. -/
def Obligations.APresentedTableWordIsRunNext : Prop :=
  ∀ (s : State) (nbits w : Nat) (i : Instr), decodeTableWord nbits w = some i → step (s.withFetchWord nbits w) = exec i s

/-- A fault the CPU engine reports ends the run with its reason and the engine's program counter (R262, R264; that the report is a
request is the model's choice, notes/assumptions/13.md). -/
def Obligations.EngineFaultsEndTheRun : Prop :=
  ∀ (s : State) (rest : List Request),
    (s.requests = .engineFault .illegalInstruction :: rest → step s = .fault (.illegalInstruction s.pc)) ∧
    (s.requests = .engineFault .internalError :: rest → step s = .fault (.engineInternalError s.pc))

/-- Construction leaves the architectural reset state, for every value of the OPEN parameters: the TRNG of R28 with draws 1 to 6 in
its pool, the SHA-256 accelerator of R34, the ROSC of `rosc_init` (R40), the RESETS of R43 (R290). -/
def Obligations.ConstructionLeavesTheArchitecturalResetState : Prop :=
  ∀ (rosc : Rosc) (mask : Word) (regions : List Config.Region) (pc : Word),
    let s := State.construct rosc mask regions pc
    s.block.trng = { imr := 0x0000000F#32, config := 0#32, srcEnable := 0#32, sampleCnt1 := 0x0000FFFF#32, debugControl := 0#32,
                     pool := #v[Config.draw 1, Config.draw 2, Config.draw 3, Config.draw 4, Config.draw 5, Config.draw 6] } ∧
    s.block.sha = { bswap := true, dmaSize := 2#2, sumVld := true, queue := [],
                    h := #v[0x6A09E667#32, 0xBB67AE85#32, 0x3C6EF372#32, 0xA54FF53A#32, 0x510E527F#32, 0x9B05688C#32,
                            0x1F83D9AB#32, 0x5BE0CD19#32] } ∧
    s.block.rosc = rosc ∧ s.block.resets.reset = 0x1FFFFFFF#32 ∧ s.draws = 6

/-- The invariant holds right after reset (R32, R44). -/
def Obligations.TheInvariantHoldsAtReset : Prop := State.reset.Inv

/-- Every step keeps the invariant: memory in canonical form, at most fifteen queued words, SUM_VLD exactly when none is queued
(R32, R44). -/
def Obligations.EveryStepKeepsTheInvariant : Prop :=
  ∀ s t : State, s.Inv → step s = .next t → t.Inv

/-- No instruction writes the OPEN parameters, the engine's program counter or the outstanding requests (R6, R20, R21). -/
def Obligations.NoInstructionWritesParametersOrRequests : Prop :=
  ∀ (i : Instr) (s t : State), exec i s = .next t →
    t.randombitMask = s.randombitMask ∧ t.regions = s.regions ∧ t.pc = s.pc ∧ t.requests = s.requests

/-! ## TRNG -/

/-- A read of a TRNG storage register returns its stored word and changes nothing else (R104, R110, R117, R118, R120). -/
def Obligations.TrngStorageReadsReturnTheStoredWord : Prop :=
  ∀ s : State,
    ReadAnswers .trngRngImrR 0x400F0100#32 s.block.trng.imr s ∧
    ReadAnswers .trngTrngConfigR 0x400F010C#32 s.block.trng.config s ∧
    ReadAnswers .trngRndSourceEnableR 0x400F012C#32 s.block.trng.srcEnable s ∧
    ReadAnswers .trngSampleCnt1R 0x400F0130#32 s.block.trng.sampleCnt1 s ∧
    ReadAnswers .trngTrngDebugControlR 0x400F0138#32 s.block.trng.debugControl s

/-- A write of a TRNG storage register without an action stores all 32 bits and changes nothing else (R105, R111, R119, R121). -/
def Obligations.TrngStorageWritesStoreTheWholeWord : Prop :=
  ∀ (s : State) (v : Word),
    WriteLeaves (.trngRngImrW v) 0x400F0100#32 v { s.block with trng := { s.block.trng with imr := v } } 0 s ∧
    WriteLeaves (.trngTrngConfigW v) 0x400F010C#32 v { s.block with trng := { s.block.trng with config := v } } 0 s ∧
    WriteLeaves (.trngSampleCnt1W v) 0x400F0130#32 v { s.block with trng := { s.block.trng with sampleCnt1 := v } } 0 s ∧
    WriteLeaves (.trngTrngDebugControlW v) 0x400F0138#32 v { s.block with trng := { s.block.trng with debugControl := v } } 0 s

/-- The TRNG's status reads and its write-only registers read constants in every state (R106, R109, R112, R123, R124). -/
def Obligations.TrngStatusReadsAreConstant : Prop :=
  ∀ s : State,
    ReadAnswers .trngRngIsrR 0x400F0104#32 0x00000001#32 s ∧
    ReadAnswers .trngRngIcrR 0x400F0108#32 0x00000000#32 s ∧
    ReadAnswers .trngTrngValidR 0x400F0110#32 0x00000001#32 s ∧
    ReadAnswers .trngTrngSwResetR 0x400F0140#32 0x00000000#32 s ∧
    ReadAnswers .trngTrngBusyR 0x400F01B8#32 0x00000000#32 s

/-- Writes to the TRNG's read-only registers change nothing of the block (R107, R113, R115, R125). -/
def Obligations.TrngReadOnlyWritesAreIgnored : Prop :=
  ∀ (s : State) (v : Word),
    WriteLeaves (.trngRngIsrW v) 0x400F0104#32 v s.block 0 s ∧
    WriteLeaves (.trngTrngValidW v) 0x400F0110#32 v s.block 0 s ∧
    WriteLeaves (.trngTrngBusyW v) 0x400F01B8#32 v s.block 0 s ∧
    WriteLeaves (.trngEhrData0W v) 0x400F0114#32 v s.block 0 s ∧
    WriteLeaves (.trngEhrData1W v) 0x400F0118#32 v s.block 0 s ∧
    WriteLeaves (.trngEhrData2W v) 0x400F011C#32 v s.block 0 s ∧
    WriteLeaves (.trngEhrData3W v) 0x400F0120#32 v s.block 0 s ∧
    WriteLeaves (.trngEhrData4W v) 0x400F0124#32 v s.block 0 s ∧
    WriteLeaves (.trngEhrData5W v) 0x400F0128#32 v s.block 0 s

/-- EHR_DATAn reads `pool[n]` and neither consumes nor refreshes the pool (R114). -/
def Obligations.EhrDataReadsReturnThePoolWord : Prop :=
  ∀ s : State,
    ReadAnswers .trngEhrData0R 0x400F0114#32 s.block.trng.pool[0] s ∧
    ReadAnswers .trngEhrData1R 0x400F0118#32 s.block.trng.pool[1] s ∧
    ReadAnswers .trngEhrData2R 0x400F011C#32 s.block.trng.pool[2] s ∧
    ReadAnswers .trngEhrData3R 0x400F0120#32 s.block.trng.pool[3] s ∧
    ReadAnswers .trngEhrData4R 0x400F0124#32 s.block.trng.pool[4] s ∧
    ReadAnswers .trngEhrData5R 0x400F0128#32 s.block.trng.pool[5] s

/-- An RNG_ICR write with `v[0] = 1` replaces the six pool words by the next six draws and changes no other register; with
`v[0] = 0` it changes nothing (R108, R100). -/
def Obligations.IcrWriteRefreshesThePoolWhenBitZeroIsSet : Prop :=
  ∀ (s : State) (v : Word),
    (v.getLsbD 0 = true →
      WriteLeaves (.trngRngIcrW v) 0x400F0108#32 v
        { s.block with trng := { s.block.trng with
            pool := #v[Config.draw (s.draws + 1), Config.draw (s.draws + 2), Config.draw (s.draws + 3),
                       Config.draw (s.draws + 4), Config.draw (s.draws + 5), Config.draw (s.draws + 6)] } } 6 s) ∧
    (v.getLsbD 0 = false → WriteLeaves (.trngRngIcrW v) 0x400F0108#32 v s.block 0 s)

/-- A RND_SOURCE_ENABLE write stores the value; with `v[0] = 1` it also refreshes the pool, whatever was stored before (R116). -/
def Obligations.SourceEnableWriteStoresAndRefreshes : Prop :=
  ∀ (s : State) (v : Word),
    (v.getLsbD 0 = true →
      WriteLeaves (.trngRndSourceEnableW v) 0x400F012C#32 v
        { s.block with trng := { s.block.trng with
            srcEnable := v
            pool := #v[Config.draw (s.draws + 1), Config.draw (s.draws + 2), Config.draw (s.draws + 3),
                       Config.draw (s.draws + 4), Config.draw (s.draws + 5), Config.draw (s.draws + 6)] } } 6 s) ∧
    (v.getLsbD 0 = false →
      WriteLeaves (.trngRndSourceEnableW v) 0x400F012C#32 v { s.block with trng := { s.block.trng with srcEnable := v } } 0 s)

/-- A TRNG_SW_RESET write with `v[0] = 1` sets every TRNG field to its reset value with a fresh pool and touches no other
peripheral; with `v[0] = 0` it changes nothing (R122). -/
def Obligations.SoftwareResetReinitialisesTheTrng : Prop :=
  ∀ (s : State) (v : Word),
    (v.getLsbD 0 = true →
      WriteLeaves (.trngTrngSwResetW v) 0x400F0140#32 v
        { s.block with trng :=
            { imr := 0x0000000F#32, config := 0#32, srcEnable := 0#32, sampleCnt1 := 0x0000FFFF#32, debugControl := 0#32,
              pool := #v[Config.draw (s.draws + 1), Config.draw (s.draws + 2), Config.draw (s.draws + 3),
                         Config.draw (s.draws + 4), Config.draw (s.draws + 5), Config.draw (s.draws + 6)] } } 6 s) ∧
    (v.getLsbD 0 = false → WriteLeaves (.trngTrngSwResetW v) 0x400F0140#32 v s.block 0 s)

/-- The pool changes only by a refresh or a re-initialisation of the TRNG, and then all six words are the next six draws (R101,
R292). -/
def Obligations.ThePoolChangesOnlyByRefreshOrReinitialisation : Prop :=
  ∀ (i : Instr) (s t : State), exec i s = .next t →
    t.block.trng.pool = s.block.trng.pool ∨
    ((∃ v : Word, (v.getLsbD 0 = true ∧ (i = .trngRngIcrW v ∨ i = .trngRndSourceEnableW v ∨ i = .trngTrngSwResetW v)) ∨
        (i = .resetsResetW v ∧ s.block.resets.reset.getLsbD 25 = true ∧ v.getLsbD 25 = false)) ∧
      t.draws = s.draws + 6 ∧
      t.block.trng.pool = #v[Config.draw (s.draws + 1), Config.draw (s.draws + 2), Config.draw (s.draws + 3),
                             Config.draw (s.draws + 4), Config.draw (s.draws + 5), Config.draw (s.draws + 6)])

/-! ## SHA-256 -/

/-- The CSR reads BSWAP at bit 12, DMA_SIZE at 9:8, SUM_VLD at bit 2, WDATA_RDY 1 and every other bit 0 (R141). -/
def Obligations.CsrReadComposesItsFields : Prop :=
  ∀ s : State,
    ReadAnswers .sha256CsrR 0x400F8000#32
      (((BitVec.ofBool s.block.sha.bswap).setWidth 32 <<< 12) ||| (s.block.sha.dmaSize.setWidth 32 <<< 8) |||
        ((BitVec.ofBool s.block.sha.sumVld).setWidth 32 <<< 2) ||| (1#32 <<< 1)) s

/-- A CSR write stores DMA_SIZE and BSWAP, and with `v[0] = 1` starts: `h` is H0, the queue is empty and SUM_VLD is 1; with
`v[0] = 0` the queue, the hash state and SUM_VLD stay (R142, R143). -/
def Obligations.CsrWriteStoresControlFieldsAndStarts : Prop :=
  ∀ (s : State) (v : Word),
    (v.getLsbD 0 = true →
      WriteLeaves (.sha256CsrW v) 0x400F8000#32 v
        { s.block with sha := { bswap := v.getLsbD 12, dmaSize := v.extractLsb' 8 2, sumVld := true, queue := [],
                                h := #v[0x6A09E667#32, 0xBB67AE85#32, 0x3C6EF372#32, 0xA54FF53A#32, 0x510E527F#32,
                                        0x9B05688C#32, 0x1F83D9AB#32, 0x5BE0CD19#32] } } 0 s) ∧
    (v.getLsbD 0 = false →
      WriteLeaves (.sha256CsrW v) 0x400F8000#32 v
        { s.block with sha := { s.block.sha with bswap := v.getLsbD 12, dmaSize := v.extractLsb' 8 2 } } 0 s)

/-- A WDATA write queues the word and clears SUM_VLD; the one that makes sixteen compresses the block, each word byte-swapped
where BSWAP is 1 now, empties the queue and sets SUM_VLD (R144, R148). -/
def Obligations.WdataWriteQueuesOrCompresses : Prop :=
  ∀ (s : State) (v : Word),
    (s.block.sha.queue.length ≠ 15 →
      WriteLeaves (.sha256WdataW v) 0x400F8004#32 v
        { s.block with sha := { s.block.sha with queue := s.block.sha.queue ++ [v], sumVld := false } } 0 s) ∧
    (s.block.sha.queue.length = 15 →
      WriteLeaves (.sha256WdataW v) 0x400F8004#32 v
        { s.block with sha := { s.block.sha with
            h := compress s.block.sha.h ((s.block.sha.queue ++ [v]).map fun x =>
              if s.block.sha.bswap then x.extractLsb' 0 8 ++ x.extractLsb' 8 8 ++ x.extractLsb' 16 8 ++ x.extractLsb' 24 8 else x)
            queue := []
            sumVld := true } } 0 s)

/-- WDATA reads 0, and SUMi reads the raw hash word `h[i]`, whatever the control fields and the queue hold (R145, R146). -/
def Obligations.ShaDataReadsReturnZeroAndTheHashWords : Prop :=
  ∀ s : State,
    ReadAnswers .sha256WdataR 0x400F8004#32 0#32 s ∧
    ReadAnswers .sha256Sum0R 0x400F8008#32 s.block.sha.h[0] s ∧
    ReadAnswers .sha256Sum1R 0x400F800C#32 s.block.sha.h[1] s ∧
    ReadAnswers .sha256Sum2R 0x400F8010#32 s.block.sha.h[2] s ∧
    ReadAnswers .sha256Sum3R 0x400F8014#32 s.block.sha.h[3] s ∧
    ReadAnswers .sha256Sum4R 0x400F8018#32 s.block.sha.h[4] s ∧
    ReadAnswers .sha256Sum5R 0x400F801C#32 s.block.sha.h[5] s ∧
    ReadAnswers .sha256Sum6R 0x400F8020#32 s.block.sha.h[6] s ∧
    ReadAnswers .sha256Sum7R 0x400F8024#32 s.block.sha.h[7] s

/-- Writes to SUM0 to SUM7 change nothing of the block (R147). -/
def Obligations.SumWritesAreIgnored : Prop :=
  ∀ (s : State) (v : Word),
    WriteLeaves (.sha256Sum0W v) 0x400F8008#32 v s.block 0 s ∧
    WriteLeaves (.sha256Sum1W v) 0x400F800C#32 v s.block 0 s ∧
    WriteLeaves (.sha256Sum2W v) 0x400F8010#32 v s.block 0 s ∧
    WriteLeaves (.sha256Sum3W v) 0x400F8014#32 v s.block 0 s ∧
    WriteLeaves (.sha256Sum4W v) 0x400F8018#32 v s.block 0 s ∧
    WriteLeaves (.sha256Sum5W v) 0x400F801C#32 v s.block 0 s ∧
    WriteLeaves (.sha256Sum6W v) 0x400F8020#32 v s.block 0 s ∧
    WriteLeaves (.sha256Sum7W v) 0x400F8024#32 v s.block 0 s

/-- The hash state follows its history through every instruction: `h` is the compression from H0 of the complete blocks written
since the last START or re-initialisation, and the queue holds the words after them (R33). -/
def Obligations.TheHashStateFollowsTheWordsWritten : Prop :=
  (∀ (rosc : Rosc) (mask : Word) (regions : List Config.Region) (pc : Word),
    ShaHistory.matches ⟨[], []⟩ (State.construct rosc mask regions pc).block.sha) ∧
  ∀ (x : ShaHistory) (i : Instr) (s t : State), x.matches s.block.sha → exec i s = .next t →
    (x.after i s).matches t.block.sha

/-- A START followed by any number of WDATA writes completes, and leaves the compression of the complete blocks in order, the
words after them in the queue, and SUM_VLD 1 exactly where none is left (R33, R142 to R144, R148). -/
def Obligations.AStreamOfWordsIsHashedBlockByBlock : Prop :=
  ∀ (s : State) (v : Word) (ws : List Word), v.getLsbD 0 = true →
    ∃ t, execAll (.sha256CsrW v :: ws.map .sha256WdataW) s = .next t ∧
      t.block.sha.h = (wordBlocks (ws.length / 16) ws).foldl
        (fun h b => compress h (b.map fun x => if v.getLsbD 12 then bswap32 x else x)) hashInit ∧
      t.block.sha.queue = ws.drop (16 * (ws.length / 16)) ∧
      t.block.sha.sumVld = decide (ws.length % 16 = 0) ∧
      t.block.trng = s.block.trng ∧ t.block.rosc = s.block.rosc ∧ t.block.resets = s.block.resets ∧ t.draws = s.draws

/-- The message schedule of a sixteen-word block is the block followed by 48 words of the recurrence of R153. -/
def Obligations.TheScheduleFollowsItsRecurrence : Prop :=
  ∀ block : List Word, block.length = 16 →
    (schedule block).length = 64 ∧ (schedule block).take 16 = block ∧
    ∀ k, k < 48 → (schedule block).getD (k + 16) 0 =
      smallSigma1 ((schedule block).getD (k + 14) 0) + (schedule block).getD (k + 9) 0 +
        smallSigma0 ((schedule block).getD (k + 1) 0) + (schedule block).getD k 0

/-- The compression gives the digests of the vectors E1, S2, S4 and S7 of spec/95_test_vectors.md (R153, R154): the padded empty
message, padded "abc", a block of zero words and a block of the words 0 to 15, each from H0. -/
def Obligations.CompressionGivesThePublishedDigests : Prop :=
  compress hashInit (0x80000000#32 :: List.replicate 15 0#32) =
    #v[0xE3B0C442#32, 0x98FC1C14#32, 0x9AFBF4C8#32, 0x996FB924#32, 0x27AE41E4#32, 0x649B934C#32, 0xA495991B#32, 0x7852B855#32] ∧
  compress hashInit (0x61626380#32 :: List.replicate 14 0#32 ++ [0x00000018#32]) =
    #v[0xBA7816BF#32, 0x8F01CFEA#32, 0x414140DE#32, 0x5DAE2223#32, 0xB00361A3#32, 0x96177A9C#32, 0xB410FF61#32, 0xF20015AD#32] ∧
  compress hashInit (List.replicate 16 0#32) =
    #v[0xDA5698BE#32, 0x17B9B469#32, 0x62335799#32, 0x779FBECA#32, 0x8CE5D491#32, 0xC0D26243#32, 0xBAFEF9EA#32, 0x1837A9D8#32] ∧
  compress hashInit ((List.range 16).map (BitVec.ofNat 32)) =
    #v[0xD623B7E1#32, 0x81041EC8#32, 0x48EAAE2C#32, 0xB544FAE3#32, 0x779C2B8B#32, 0xB09C7C90#32, 0xE5962C49#32, 0xCDDE609D#32]

/-- In a state that meets the invariant, bit 2 of the CSR read is 1 exactly when no word is queued (R44, R299). -/
def Obligations.SumVldReadsOneExactlyWhenNoWordIsQueued : Prop :=
  ∀ s : State, s.Inv → ∃ t v, exec .sha256CsrR s = .next t ∧ t.response = .value v ∧
    (v.getLsbD 2 = true ↔ s.block.sha.queue = [])

/-! ## ROSC -/

/-- A read of a ROSC storage register returns its stored word and changes nothing else (R181, R183, R185, R187, R189, R191,
R193). -/
def Obligations.RoscStorageReadsReturnTheStoredWord : Prop :=
  ∀ s : State,
    ReadAnswers .roscCtrlR 0x400E8000#32 s.block.rosc.ctrl s ∧
    ReadAnswers .roscFreqaR 0x400E8004#32 s.block.rosc.freqa s ∧
    ReadAnswers .roscFreqbR 0x400E8008#32 s.block.rosc.freqb s ∧
    ReadAnswers .roscDormantR 0x400E8010#32 s.block.rosc.dormant s ∧
    ReadAnswers .roscDivR 0x400E8014#32 s.block.rosc.div s ∧
    ReadAnswers .roscPhaseR 0x400E8018#32 s.block.rosc.phase s ∧
    ReadAnswers .roscStatusR 0x400E801C#32 s.block.rosc.status s

/-- A write of a ROSC storage register stores all 32 bits and changes nothing else (R182, R184, R186, R188, R190, R192, R194). -/
def Obligations.RoscStorageWritesStoreTheWholeWord : Prop :=
  ∀ (s : State) (v : Word),
    WriteLeaves (.roscCtrlW v) 0x400E8000#32 v { s.block with rosc := { s.block.rosc with ctrl := v } } 0 s ∧
    WriteLeaves (.roscFreqaW v) 0x400E8004#32 v { s.block with rosc := { s.block.rosc with freqa := v } } 0 s ∧
    WriteLeaves (.roscFreqbW v) 0x400E8008#32 v { s.block with rosc := { s.block.rosc with freqb := v } } 0 s ∧
    WriteLeaves (.roscDormantW v) 0x400E8010#32 v { s.block with rosc := { s.block.rosc with dormant := v } } 0 s ∧
    WriteLeaves (.roscDivW v) 0x400E8014#32 v { s.block with rosc := { s.block.rosc with div := v } } 0 s ∧
    WriteLeaves (.roscPhaseW v) 0x400E8018#32 v { s.block with rosc := { s.block.rosc with phase := v } } 0 s ∧
    WriteLeaves (.roscStatusW v) 0x400E801C#32 v { s.block with rosc := { s.block.rosc with status := v } } 0 s

/-- A RANDOMBIT read returns the next draw under the mask, consumes that one draw and changes nothing else; a RANDOMBIT write
changes nothing of the block and consumes no draw (R195, R196). -/
def Obligations.RandombitReadsAFreshDrawUnderTheMask : Prop :=
  ∀ (s : State) (v : Word),
    (∃ m, StoresWord s.mem 0x400E8020#32 (Config.draw (s.draws + 1) &&& s.randombitMask) m ∧
      exec .roscRandombitR s = .next { s with
        response := .value (Config.draw (s.draws + 1) &&& s.randombitMask), draws := s.draws + 1, mem := m }) ∧
    WriteLeaves (.roscRandombitW v) 0x400E8020#32 v s.block 0 s

/-- No ROSC field changes but by a write to its own register: neither a RESETS write nor any other transaction changes one (R39,
R197). -/
def Obligations.RoscFieldsChangeOnlyByTheirOwnWrites : Prop :=
  ∀ (i : Instr) (s t : State), exec i s = .next t →
    ((∀ v, i ≠ .roscCtrlW v) → t.block.rosc.ctrl = s.block.rosc.ctrl) ∧
    ((∀ v, i ≠ .roscFreqaW v) → t.block.rosc.freqa = s.block.rosc.freqa) ∧
    ((∀ v, i ≠ .roscFreqbW v) → t.block.rosc.freqb = s.block.rosc.freqb) ∧
    ((∀ v, i ≠ .roscDormantW v) → t.block.rosc.dormant = s.block.rosc.dormant) ∧
    ((∀ v, i ≠ .roscDivW v) → t.block.rosc.div = s.block.rosc.div) ∧
    ((∀ v, i ≠ .roscPhaseW v) → t.block.rosc.phase = s.block.rosc.phase) ∧
    ((∀ v, i ≠ .roscStatusW v) → t.block.rosc.status = s.block.rosc.status)

/-! ## RESETS -/

/-- A RESET read returns all 32 stored bits and changes nothing else (R201). -/
def Obligations.ResetReadReturnsTheStoredWord : Prop :=
  ∀ s : State, ReadAnswers .resetsResetR 0x40020000#32 s.block.resets.reset s

/-- A RESET write stores its value, re-initialises the TRNG where bit 25 goes from 1 to 0 and the SHA-256 accelerator where bit 17
does, and changes nothing else (R202, R203, R205). -/
def Obligations.ResetWritePropagatesReleases : Prop :=
  ∀ (s : State) (v : Word),
    let trngReleased := s.block.resets.reset.getLsbD 25 && !v.getLsbD 25
    let shaReleased := s.block.resets.reset.getLsbD 17 && !v.getLsbD 17
    WriteLeaves (.resetsResetW v) 0x40020000#32 v
      { trng :=
          if trngReleased then
            { imr := 0x0000000F#32, config := 0#32, srcEnable := 0#32, sampleCnt1 := 0x0000FFFF#32, debugControl := 0#32,
              pool := #v[Config.draw (s.draws + 1), Config.draw (s.draws + 2), Config.draw (s.draws + 3),
                         Config.draw (s.draws + 4), Config.draw (s.draws + 5), Config.draw (s.draws + 6)] }
          else s.block.trng
        sha :=
          if shaReleased then
            { bswap := true, dmaSize := 2#2, sumVld := true, queue := [],
              h := #v[0x6A09E667#32, 0xBB67AE85#32, 0x3C6EF372#32, 0xA54FF53A#32, 0x510E527F#32, 0x9B05688C#32, 0x1F83D9AB#32,
                      0x5BE0CD19#32] }
          else s.block.sha
        rosc := s.block.rosc
        resets := { reset := v } }
      (if trngReleased then 6 else 0) s

/-! ## Dispatcher -/

/-- An unknown offset of each region reads 0, and a write to it is discarded: a later read still returns 0 (R222). -/
def Obligations.UnknownOffsetsReadZeroAndDiscardWrites : Prop :=
  ∀ (s : State) (off : BitVec 12) (v : Word),
    (Periph.resets.unknown off = true →
      ReadAnswers (.resetsUnknownR off) (0x40020000#32 + off.setWidth 32) 0#32 s ∧
      WriteLeaves (.resetsUnknownW off v) (0x40020000#32 + off.setWidth 32) v s.block 0 s) ∧
    (Periph.rosc.unknown off = true →
      ReadAnswers (.roscUnknownR off) (0x400E8000#32 + off.setWidth 32) 0#32 s ∧
      WriteLeaves (.roscUnknownW off v) (0x400E8000#32 + off.setWidth 32) v s.block 0 s) ∧
    (Periph.trng.unknown off = true →
      ReadAnswers (.trngUnknownR off) (0x400F0000#32 + off.setWidth 32) 0#32 s ∧
      WriteLeaves (.trngUnknownW off v) (0x400F0000#32 + off.setWidth 32) v s.block 0 s) ∧
    (Periph.sha.unknown off = true →
      ReadAnswers (.sha256UnknownR off) (0x400F8000#32 + off.setWidth 32) 0#32 s ∧
      WriteLeaves (.sha256UnknownW off v) (0x400F8000#32 + off.setWidth 32) v s.block 0 s)

/-- A window address outside every region reads 0, and a write to it is discarded (R225). -/
def Obligations.UnmappedWindowAddressesReadZeroAndDiscardWrites : Prop :=
  ∀ (s : State) (a v : Word), (Instr.windowUnmappedR a).wf = true →
    ReadAnswers (.windowUnmappedR a) a 0#32 s ∧ WriteLeaves (.windowUnmappedW a v) a v s.block 0 s

/-- The silicon's alias windows of the four peripherals, at base + 0x1000 to + 0x3FFF, reach no peripheral: a word access there
reads 0 and discards its write (R72, R225). -/
def Obligations.AtomicAliasesReachNoPeripheral : Prop :=
  ∀ (s : State) (p : Periph) (off : BitVec 14) (v : Word),
    0x1000 ≤ off.toNat → off.getLsbD 0 = false → off.getLsbD 1 = false →
    (∃ t, exec (decode ⟨.data .read, 2#2, p.base + off.setWidth 32⟩) s = .next t ∧ t.response = .value 0#32 ∧
      t.block = s.block) ∧
    (∃ t, exec (decode ⟨.data (.write v), 2#2, p.base + off.setWidth 32⟩) s = .next t ∧ t.response = .done ∧
      t.block = s.block)

/-- The admission check of the window refuses in its order: a fetch, then a reserved kind or size code, then a sub-word access,
then a misaligned one (R226, R265). -/
def Obligations.TheAdmissionCheckRefusesInOrder : Prop :=
  ∀ (t : Transaction) (s : State), inWindow t.addr = true →
    (t.access = .fetch → exec (decode t) s = .refused (.fetchFromMmio t.addr)) ∧
    (t.access ≠ .fetch → t.access = .reserved ∨ t.size = 3#2 → exec (decode t) s = .refused (.reservedCode t.addr)) ∧
    (∀ acc, t.access = .data acc → t.size = 0#2 ∨ t.size = 1#2 →
      exec (decode t) s = .refused (.subwordMmio t.addr t.size)) ∧
    (∀ acc, t.access = .data acc → t.size = 2#2 → t.addr.toNat % 4 ≠ 0 →
      exec (decode t) s = .refused (.misalignedMmio t.addr))

/-- The six refusal rows answer with their reason in every state (R226, R263, R264). -/
def Obligations.TheRefusalRowsStopWithTheirReason : Prop :=
  ∀ (s : State) (size : BitVec 2) (acc : DataAccess) (a : Word),
    exec (.refuseFetch size a) s = .refused (.fetchFromMmio a) ∧
    exec (.refuseReservedKind size a) s = .refused (.reservedCode a) ∧
    exec (.refuseReservedSize acc a) s = .refused (.reservedCode a) ∧
    exec (.refuseSubword acc false a) s = .refused (.subwordMmio a 0#2) ∧
    exec (.refuseSubword acc true a) s = .refused (.subwordMmio a 1#2) ∧
    exec (.refuseMisalignedOdd acc a) s = .refused (.misalignedMmio a) ∧
    exec (.refuseMisalignedHalf acc a) s = .refused (.misalignedMmio a)

/-- Every word-aligned 32-bit read or write in the window completes, a read with a value and a write with none, and the trap
returns handled (R10, R230, R231, R260). -/
def Obligations.EveryAdmittedTransactionCompletes : Prop :=
  ∀ (s : State) (a v : Word), inWindow a = true → a.toNat % 4 = 0 →
    (∃ t r, exec (decode ⟨.data .read, 2#2, a⟩) s = .next t ∧ t.response = .value r ∧
      t.mem.readBytes a.toNat 4 = wordBytes r) ∧
    (∃ t, exec (decode ⟨.data (.write v), 2#2, a⟩) s = .next t ∧ t.response = .done ∧
      t.mem.readBytes a.toNat 4 = wordBytes v) ∧
    onAccess ⟨.data .read, 2#2, a⟩ s = some .handled ∧ onAccess ⟨.data (.write v), 2#2, a⟩ s = some .handled

/-- A transaction to one peripheral changes no other, but for the re-initialisations of a RESETS write (R11). -/
def Obligations.ATransactionChangesOnlyItsPeripheral : Prop :=
  ∀ (i : Instr) (s t : State) (p : Periph), exec i s = .next t → ownerOf i ≠ some p → (∀ v, i ≠ .resetsResetW v) →
    Block.agreeOn p s.block t.block

/-- A transaction to one peripheral reads no other: from two states that agree on that peripheral, on the draws consumed and on
the mask, it gives the same answer and leaves the peripheral the same (R11). -/
def Obligations.ATransactionReadsOnlyItsPeripheral : Prop :=
  ∀ (i : Instr) (p : Periph) (s u : State), ownerOf i = some p →
    Block.agreeOn p s.block u.block → s.draws = u.draws → s.randombitMask = u.randombitMask →
    ∃ s' u', exec i s = .next s' ∧ exec i u = .next u' ∧ s'.response = u'.response ∧ s'.draws = u'.draws ∧
      Block.agreeOn p s'.block u'.block

/-- Every word read in the window but RANDOMBIT changes no state of the block and consumes no draw, and a second read returns the
same value (R68, R69). -/
def Obligations.ReadsAreIdempotent : Prop :=
  ∀ (s : State) (a : Word), inWindow a = true → a.toNat % 4 = 0 → a ≠ 0x400E8020#32 →
    ∃ t u v, exec (decode ⟨.data .read, 2#2, a⟩) s = .next t ∧ exec (decode ⟨.data .read, 2#2, a⟩) t = .next u ∧
      t.response = .value v ∧ u.response = .value v ∧ t.block = s.block ∧ t.draws = s.draws

/-- Writing the same value twice to a storage register leaves the state that one write leaves, from a memory in canonical form
(R69). -/
def Obligations.StorageWritesAreIdempotent : Prop :=
  ∀ (s : State) (v : Word) (i : Instr), s.mem.wf = true →
    i ∈ [.trngRngImrW v, .trngTrngConfigW v, .trngSampleCnt1W v, .trngTrngDebugControlW v, .roscCtrlW v, .roscFreqaW v,
         .roscFreqbW v, .roscDormantW v, .roscDivW v, .roscPhaseW v, .roscStatusW v] →
    ∃ t, exec i s = .next t ∧ exec i t = .next t

/-- How many draws an instruction consumes: six for a refresh or a TRNG re-initialisation, one for a RANDOMBIT read or an IV
split, twenty-four for a key split, and none for any other (R68, R100, R240, R242, R291; that host calls count on the same counter
is the model's choice, notes/assumptions/3.md). -/
def Obligations.DrawsAreConsumedOnlyWhereTheRulesSay : Prop :=
  ∀ (i : Instr) (s t : State), exec i s = .next t →
    t.draws = s.draws +
      match i with
      | .trngRngIcrW v => if v.getLsbD 0 then 6 else 0
      | .trngRndSourceEnableW v => if v.getLsbD 0 then 6 else 0
      | .trngTrngSwResetW v => if v.getLsbD 0 then 6 else 0
      | .resetsResetW v => if s.block.resets.reset.getLsbD 25 && !v.getLsbD 25 then 6 else 0
      | .roscRandombitR => 1
      | .shareSplitKey key => if key.length = 32 then 24 else 0
      | .shareSplitIV iv => if iv.length = 16 then 1 else 0
      | _ => 0

/-! ## Outside the window -/

/-- An access at an address outside the window and outside every region the harness maps faults with the address and the engine's
program counter (R227, R261). -/
def Obligations.UnmappedAccessFaults : Prop :=
  ∀ (t : Transaction) (s : State), inWindow t.addr = false →
    (∀ r ∈ s.regions, ¬ (r.base.toNat ≤ t.addr.toNat ∧ t.addr.toNat < r.base.toNat + r.size)) →
    exec (decode t) s = .fault (.unmappedAccess t.addr s.pc) ∧ onAccess t s = some .fault

/-- An access of one, two or four bytes that lies in a region the harness maps and reaches no byte of the window is served from the
emulator's memory, little-endian: a read and a fetch answer the bytes zero-extended and change nothing, a write stores the low bytes
of its value and leaves every other byte, and no trap replies (R227, R268, R265, R63; the service is the model's choice,
notes/assumptions/10.md, 22.md, 23.md and 24.md). -/
def Obligations.MappedAccessesAreServedFromMemory : Prop :=
  ∀ (s : State) (size : BitVec 2) (n : Nat) (a v : Word) (r : Config.Region),
    (size = 0#2 ∧ n = 1) ∨ (size = 1#2 ∧ n = 2) ∨ (size = 2#2 ∧ n = 4) →
    inWindow a = false → r ∈ s.regions → r.base.toNat ≤ a.toNat → a.toNat + n ≤ r.base.toNat + r.size →
    a.toNat + n ≤ 0x100000000 → a.toNat + n ≤ 0x40000000 ∨ 0x40100000 ≤ a.toNat →
    (∀ access ∈ [BusAccess.data .read, BusAccess.data (.write v), BusAccess.fetch], onAccess ⟨access, size, a⟩ s = none) ∧
    (∀ access ∈ [BusAccess.data .read, BusAccess.fetch],
      ∃ w, exec (.outsideWindow ⟨access, size, a⟩) s = .next { s with response := .value w } ∧
        ∀ j, j < 4 → w.extractLsb' (8 * j) 8 = if j < n then s.mem.read (a.toNat + j) else 0#8) ∧
    (∃ m, exec (.outsideWindow ⟨.data (.write v), size, a⟩) s = .next { s with response := .done, mem := m } ∧
      (∀ j, j < n → m.read (a.toNat + j) = v.extractLsb' (8 * j) 8) ∧
      ∀ x, x < a.toNat ∨ a.toNat + n ≤ x → m.read x = s.mem.read x)

/-- A reserved kind or size code outside the window faults as an unmapped access, whether or not a region holds the address: no
region can serve it, and R227 and R265 leave no third outcome (the model's choice, notes/assumptions/11.md). -/
def Obligations.ReservedCodesOutsideTheWindowFault : Prop :=
  ∀ (s : State) (t : Transaction), inWindow t.addr = false → t.access = .reserved ∨ t.size = 3#2 →
    exec (decode t) s = .fault (.unmappedAccess t.addr s.pc) ∧ onAccess t s = some .fault

/-! ## Secret sharing -/

/-- `splitKey` of 32 bytes completes with 128 bytes: share word `i` holds the draws `a`, `b`, `c` of that word and
`d = w ⊕ a ⊕ b ⊕ c`, byte by byte, and nothing of the block changes (R240, R241). That the 24 draws are numbered on the block's
counter is the model's choice, notes/assumptions/3.md. -/
def Obligations.SplitKeyLaysOutFourSharesPerWord : Prop :=
  ∀ (s : State) (key : List Byte), key.length = 32 →
    ∃ shares : List Byte,
      exec (.shareSplitKey key) s = .next { s with draws := s.draws + 24, response := .bytes shares } ∧ shares.length = 128 ∧
      ∀ i j, i < 8 → j < 4 →
        let a := Config.drawByte (s.draws + 1 + 3 * i) j
        let b := Config.drawByte (s.draws + 2 + 3 * i) j
        let c := Config.drawByte (s.draws + 3 + 3 * i) j
        shares.getD (16 * i + j) 0 = a ∧ shares.getD (16 * i + 4 + j) 0 = b ∧ shares.getD (16 * i + 8 + j) 0 = c ∧
        shares.getD (16 * i + 12 + j) 0 = key.getD (4 * i + j) 0 ^^^ a ^^^ b ^^^ c

/-- `splitIV` of 16 bytes completes with sixteen drawn bytes and the IV XORed with them, and nothing of the block changes
(R242). That the draw is numbered on the block's counter is the model's choice, notes/assumptions/3.md. -/
def Obligations.SplitIVMasksTheIVWithADraw : Prop :=
  ∀ (s : State) (iv : List Byte), iv.length = 16 →
    ∃ shareA shareB : List Byte,
      exec (.shareSplitIV iv) s = .next { s with draws := s.draws + 1, response := .sharePair shareA shareB } ∧
      shareA.length = 16 ∧ shareB.length = 16 ∧
      ∀ j, j < 16 → shareA.getD j 0 = Config.drawByte (s.draws + 1) j ∧
        shareB.getD j 0 = iv.getD j 0 ^^^ Config.drawByte (s.draws + 1) j

/-- `joinKey` of 128 bytes completes with 32 bytes, each the XOR of its four shares, draws nothing and changes nothing of the
block (R244). -/
def Obligations.JoinKeyXorsTheFourShares : Prop :=
  ∀ (s : State) (shares : List Byte), shares.length = 128 →
    ∃ key : List Byte,
      exec (.shareJoinKey shares) s = .next { s with response := .bytes key } ∧ key.length = 32 ∧
      ∀ i j, i < 8 → j < 4 → key.getD (4 * i + j) 0 =
        shares.getD (16 * i + j) 0 ^^^ shares.getD (16 * i + 4 + j) 0 ^^^ shares.getD (16 * i + 8 + j) 0 ^^^
          shares.getD (16 * i + 12 + j) 0

/-- Reconstruction holds for every draw: whatever the four-byte draws are, joining the shares of a key gives the key, and whatever
the sixteen-byte draw is, XORing the shares of an IV gives the IV (R243). -/
def Obligations.SharesReconstructForEveryDraw : Prop :=
  (∀ (share : Nat → List Byte) (key : List Byte), (∀ j, (share j).length = 4) → key.length = 32 →
    joinKeyBytes (splitKeyWith share key) = key) ∧
  (∀ shareA iv : List Byte, shareA.length = 16 → iv.length = 16 →
    xorBytes (splitIVWith shareA iv).1 (splitIVWith shareA iv).2 = iv)

/-- Run on the machine, `joinKey` of what `splitKey` answered gives the key back (R243, R244). -/
def Obligations.JoiningASplitKeyGivesTheKeyBack : Prop :=
  ∀ (s : State) (key : List Byte), key.length = 32 →
    ∃ t u shares, exec (.shareSplitKey key) s = .next t ∧ t.response = .bytes shares ∧
      exec (.shareJoinKey shares) t = .next u ∧ u.response = .bytes key ∧ u.block = s.block

/-- A host function given an input of the wrong length stops with `InputLength`: no output, no draw, no change of the block
(R245). -/
def Obligations.WrongLengthInputsAreErrorsWithoutOutput : Prop :=
  ∀ (s : State) (bs : List Byte),
    (bs.length ≠ 32 → exec (.shareSplitKey bs) s = .next { s with response := .error .inputLengthSplitKey }) ∧
    (bs.length ≠ 16 → exec (.shareSplitIV bs) s = .next { s with response := .error .inputLengthSplitIV }) ∧
    (bs.length ≠ 128 → exec (.shareJoinKey bs) s = .next { s with response := .error .inputLengthJoinKey })

/-! ## Instruction fetches and the edge of the window -/

/-- No transaction in the window changes an instruction the CPU fetches: a fetch is refused in the window, and outside it every fetch
has after the transaction the answer or the stop it had before (R73; the service of a fetch outside the window is the model's
choice, notes/assumptions/10.md). -/
def Obligations.NoWindowTransactionChangesAFetchedInstruction : Prop :=
  ∀ (t f : Transaction) (s u : State), inWindow t.addr = true → f.access = .fetch → exec (decode t) s = .next u →
    (inWindow f.addr = true → exec (decode f) u = .refused (.fetchFromMmio f.addr)) ∧
    (∀ s', exec (decode f) s = .next s' → ∃ u', exec (decode f) u = .next u' ∧ u'.response = s'.response) ∧
    (∀ r, exec (decode f) s = .fault r → exec (decode f) u = .fault r)

/-- An access outside the window that no single region holds whole, that runs over the end of the address space, or that reaches into
the window from below faults as an unmapped access with its address (R227, R261; the model's choice, notes/assumptions/10.md and
23.md). -/
def Obligations.AccessesNoRegionHoldsWholeFault : Prop :=
  ∀ (s : State) (t : Transaction) (n : Nat),
    (t.size = 0#2 ∧ n = 1) ∨ (t.size = 1#2 ∧ n = 2) ∨ (t.size = 2#2 ∧ n = 4) → inWindow t.addr = false →
    (∀ r ∈ s.regions, ¬ (r.base.toNat ≤ t.addr.toNat ∧ t.addr.toNat + n ≤ r.base.toNat + r.size)) ∨
      0x100000000 < t.addr.toNat + n ∨ (t.addr.toNat < 0x40000000 ∧ 0x40000000 < t.addr.toNat + n) →
    exec (decode t) s = .fault (.unmappedAccess t.addr s.pc) ∧ onAccess t s = some .fault
end

