-- ==== Sys2Proof/Laws/Decode.lean ====
section
/-! SUPPORT. The laws of the address map and of the decoder's parts. -/

namespace Sys2Proof

theorem Periph.base_bound (p : Periph) : 0x40000000 ≤ p.base.toNat ∧ p.base.toNat + regionSize ≤ 0x40100000 := by
  cases p <;> decide

/-- The address of an offset is the base plus the offset, without wrapping. -/
theorem Periph.toNat_address (p : Periph) (off : BitVec 12) : (p.address off).toNat = p.base.toNat + off.toNat := by
  have hb := p.base_bound
  have ho := off.isLt
  simp only [Periph.address, BitVec.toNat_add, BitVec.toNat_setWidth, regionSize] at *
  omega

theorem Periph.holds_iff (p : Periph) (a : Word) :
    p.holds a = true ↔ p.base.toNat ≤ a.toNat ∧ a.toNat < p.base.toNat + regionSize := by
  simp [Periph.holds]

/-- An offset's address lies in its region. -/
@[simp] theorem Periph.holds_address (p : Periph) (off : BitVec 12) : p.holds (p.address off) = true := by
  rw [Periph.holds_iff, Periph.toNat_address]
  have := off.isLt
  simp only [regionSize]
  omega

/-- The offset of an offset's address is the offset. -/
@[simp] theorem Periph.offsetOf_address (p : Periph) (off : BitVec 12) : p.offsetOf (p.address off) = off := by
  apply BitVec.eq_of_toNat_eq
  have hb := p.base_bound
  have ho := off.isLt
  have := p.toNat_address off
  simp only [Periph.offsetOf, BitVec.toNat_setWidth, BitVec.toNat_sub, regionSize] at *
  omega

/-- The address of an address's offset is the address, inside the region. -/
theorem Periph.address_offsetOf (p : Periph) {a : Word} (h : p.holds a = true) : p.address (p.offsetOf a) = a := by
  apply BitVec.eq_of_toNat_eq
  rw [Periph.holds_iff] at h
  have hb := p.base_bound
  have ha := a.isLt
  rw [p.toNat_address]
  simp only [Periph.offsetOf, BitVec.toNat_setWidth, BitVec.toNat_sub, regionSize] at *
  omega

/-- A region's addresses lie in the window (R62). -/
theorem Periph.inWindow_of_holds {p : Periph} {a : Word} (h : p.holds a = true) : inWindow a = true := by
  rw [Periph.holds_iff] at h
  have := p.base_bound
  simp only [inWindow, decide_eq_true_eq]
  omega

/-- No address lies in two regions. -/
theorem Periph.holds_unique {p q : Periph} {a : Word} (hp : p.holds a = true) (hq : q.holds a = true) : p = q := by
  rw [Periph.holds_iff] at hp hq
  cases p <;> cases q <;> first | rfl | (simp only [Periph.base, regionSize, BitVec.toNat_ofNat] at hp hq; omega)

/-- The region of an address is the one that holds it. -/
theorem regionOf_eq_some_iff (a : Word) (p : Periph) : regionOf a = some p ↔ p.holds a = true := by
  constructor
  · intro h
    have := List.find?_some h
    simpa using this
  · intro h
    cases hr : regionOf a with
    | none =>
      have := List.find?_eq_none.mp hr p (by cases p <;> simp)
      exact absurd h this
    | some q => rw [Periph.holds_unique (p := q) (q := p) (by simpa using List.find?_some hr) h]

theorem regionOf_eq_none_iff (a : Word) : regionOf a = none ↔ ∀ p : Periph, p.holds a = false := by
  constructor
  · intro h p
    cases hp : p.holds a with
    | false => rfl
    | true => simp [(regionOf_eq_some_iff a p).mpr hp] at h
  · intro h
    cases hr : regionOf a with
    | none => rfl
    | some p => exact absurd ((regionOf_eq_some_iff a p).mp hr) (by simp [h p])

@[simp] theorem regionOf_address (p : Periph) (off : BitVec 12) : regionOf (p.address off) = some p :=
  (regionOf_eq_some_iff _ _).mpr (p.holds_address off)

@[simp] theorem inWindow_address (p : Periph) (off : BitVec 12) : inWindow (p.address off) = true :=
  Periph.inWindow_of_holds (p.holds_address off)

theorem Periph.base_mod_four (p : Periph) : p.base.toNat % 4 = 0 := by
  cases p <;> rfl

theorem getLsbD_zero_eq {w : Nat} (x : BitVec w) : x.getLsbD 0 = decide (x.toNat % 2 = 1) := by
  rw [BitVec.getLsbD, Nat.testBit_zero]

theorem getLsbD_one_eq {w : Nat} (x : BitVec w) : x.getLsbD 1 = decide (x.toNat / 2 % 2 = 1) := by
  rw [BitVec.getLsbD, Nat.testBit_succ, Nat.testBit_zero]

theorem getLsbD_zero_address (p : Periph) (off : BitVec 12) : (p.address off).getLsbD 0 = off.getLsbD 0 := by
  have := p.base_mod_four
  rw [getLsbD_zero_eq, getLsbD_zero_eq, p.toNat_address]
  congr 2
  omega

theorem getLsbD_one_address (p : Periph) (off : BitVec 12) : (p.address off).getLsbD 1 = off.getLsbD 1 := by
  have := p.base_mod_four
  rw [getLsbD_one_eq, getLsbD_one_eq, p.toNat_address]
  congr 2
  omega

@[simp] theorem TrngReg.ofOffset_offset (r : TrngReg) : TrngReg.ofOffset r.offset = some r := by cases r <;> decide
@[simp] theorem ShaReg.ofOffset_offset (r : ShaReg) : ShaReg.ofOffset r.offset = some r := by cases r <;> decide
@[simp] theorem RoscReg.ofOffset_offset (r : RoscReg) : RoscReg.ofOffset r.offset = some r := by cases r <;> decide
@[simp] theorem ResetsReg.ofOffset_offset (r : ResetsReg) : ResetsReg.ofOffset r.offset = some r := by cases r <;> decide

theorem TrngReg.offset_of_ofOffset {off : BitVec 12} {r : TrngReg} (h : TrngReg.ofOffset off = some r) : r.offset = off := by
  simpa using List.find?_some h
theorem ShaReg.offset_of_ofOffset {off : BitVec 12} {r : ShaReg} (h : ShaReg.ofOffset off = some r) : r.offset = off := by
  simpa using List.find?_some h
theorem RoscReg.offset_of_ofOffset {off : BitVec 12} {r : RoscReg} (h : RoscReg.ofOffset off = some r) : r.offset = off := by
  simpa using List.find?_some h
theorem ResetsReg.offset_of_ofOffset {off : BitVec 12} {r : ResetsReg} (h : ResetsReg.ofOffset off = some r) :
    r.offset = off := by
  simpa using List.find?_some h

/-- Every register's offset is word-aligned (R25, R31, R36, R41). -/
theorem TrngReg.offset_aligned (r : TrngReg) : r.offset.getLsbD 0 = false ∧ r.offset.getLsbD 1 = false := by
  cases r <;> decide
theorem ShaReg.offset_aligned (r : ShaReg) : r.offset.getLsbD 0 = false ∧ r.offset.getLsbD 1 = false := by
  cases r <;> decide
theorem RoscReg.offset_aligned (r : RoscReg) : r.offset.getLsbD 0 = false ∧ r.offset.getLsbD 1 = false := by
  cases r <;> decide
theorem ResetsReg.offset_aligned (r : ResetsReg) : r.offset.getLsbD 0 = false ∧ r.offset.getLsbD 1 = false := by
  cases r <;> decide

/-- A word-aligned word access in the window passes the admission check (R226). -/
theorem decode_admitted {acc : DataAccess} {a : Word} (hw : inWindow a = true) (h0 : a.getLsbD 0 = false)
    (h1 : a.getLsbD 1 = false) : decode ⟨.data acc, 2#2, a⟩ = decodeAdmitted acc a := by
  simp only [decode, decodeData, hw, h0, h1]
  rfl

/-- A word access at a word-aligned offset of a region reaches the region's own decoder with that offset. -/
theorem decode_address {p : Periph} {acc : DataAccess} {off : BitVec 12} (h0 : off.getLsbD 0 = false)
    (h1 : off.getLsbD 1 = false) :
    decode ⟨.data acc, 2#2, p.address off⟩ =
      match p with
      | .trng => decodeTrng off acc
      | .sha => decodeSha off acc
      | .rosc => decodeRosc off acc
      | .resets => decodeResets off acc := by
  rw [decode_admitted (inWindow_address p off) (by rwa [getLsbD_zero_address]) (by rwa [getLsbD_one_address])]
  cases p <;> simp [decodeAdmitted]

/-- A transaction outside the window is none of the block (R227). -/
theorem decode_outside {t : Transaction} (h : inWindow t.addr = false) : decode t = .outsideWindow t := by
  simp [decode, h]

@[simp] theorem le32_wordBytes (v : Word) :
    Machine.le32 (Machine.wordByte v 0) (Machine.wordByte v 1) (Machine.wordByte v 2) (Machine.wordByte v 3) = v := by
  simp only [Machine.le32, Machine.wordByte]
  apply BitVec.eq_of_getLsbD_eq
  intro i hi
  simp only [BitVec.getLsbD_append, BitVec.getLsbD_extractLsb']
  by_cases h0 : i < 8
  · simp [h0]
  · by_cases h1 : i - 8 < 8
    · simp [h0, h1]; congr 1; omega
    · by_cases h2 : i - 8 - 8 < 8
      · simp [h0, h1, h2]; congr 1; omega
      · have h3 : i - 8 - 8 - 8 < 8 := by omega
        simp [h0, h1, h2, h3]; congr 1; omega

end Sys2Proof
end

