-- ==== Sys2Proof/Laws/Memory.lean ====
section
/-! SUPPORT. The laws of the emulator's memory: a read after a write, and that every operation keeps the canonical form. -/

namespace Sys2Proof.Machine

theorem Memory.read_erase_same (m : Memory) (a : Nat) : (m.erase a).read a = Memory.unlisted := by
  induction m with
  | nil => rfl
  | cons c m ih =>
    simp only [Memory.erase, List.filter_cons] at ih ⊢
    by_cases h : c.1 = a
    · simpa [h] using ih
    · simpa [h, Memory.read] using ih

theorem Memory.read_erase_other (m : Memory) {a x : Nat} (h : x ≠ a) : (m.erase a).read x = m.read x := by
  induction m with
  | nil => rfl
  | cons c m ih =>
    simp only [Memory.erase, List.filter_cons] at ih ⊢
    by_cases hc : c.1 = a
    · have : c.1 ≠ x := fun e => h (e ▸ hc)
      simpa [hc, Memory.read, this, h.symm] using ih
    · by_cases hx : c.1 = x
      · simp [Memory.read, hx, h]
      · simpa [hc, hx, Memory.read] using ih

theorem Memory.read_insert_other (m : Memory) {a x : Nat} (b : Byte) (h : x ≠ a) : (m.insert a b).read x = m.read x := by
  induction m with
  | nil => simp [Memory.insert, Memory.read, h.symm]
  | cons c m ih =>
    simp only [Memory.insert]
    split
    · simp [Memory.read, h.symm]
    · simp [Memory.read, ih]

theorem Memory.read_insert_same (m : Memory) {a : Nat} (b : Byte) (h : ∀ c ∈ m, c.1 ≠ a) : (m.insert a b).read a = b := by
  induction m with
  | nil => simp [Memory.insert, Memory.read]
  | cons c m ih =>
    simp only [Memory.insert]
    split
    · simp [Memory.read]
    · simp [Memory.read, h c (by simp), ih fun d hd => h d (by simp [hd])]

theorem Memory.not_mem_erase (m : Memory) (a : Nat) : ∀ c ∈ m.erase a, c.1 ≠ a := by
  intro c hc
  simpa using (List.mem_filter.mp hc).2

/-- A byte read where it was stored is the byte stored. -/
@[simp] theorem Memory.read_write_same (m : Memory) (a : Nat) (b : Byte) : (m.write a b).read a = b := by
  unfold Memory.write
  split
  · rw [Memory.read_erase_same, ‹b = _›]
  · exact Memory.read_insert_same _ b (Memory.not_mem_erase m a)

/-- A store leaves every other byte alone. -/
theorem Memory.read_write_other (m : Memory) {a x : Nat} (b : Byte) (h : x ≠ a) : (m.write a b).read x = m.read x := by
  unfold Memory.write
  split
  · exact Memory.read_erase_other m h
  · rw [Memory.read_insert_other _ b h, Memory.read_erase_other m h]

/-- Bytes below the first one stored are left alone. -/
theorem Memory.read_writeBytes_below (bs : List Byte) (m : Memory) {a x : Nat} (h : x < a) :
    (m.writeBytes a bs).read x = m.read x := by
  induction bs generalizing m a with
  | nil => rfl
  | cons b bs ih => rw [Memory.writeBytes, ih _ (by omega), Memory.read_write_other _ _ (by omega)]

/-- Bytes above the last one stored are left alone. -/
theorem Memory.read_writeBytes_above (bs : List Byte) (m : Memory) {a x : Nat} (h : a + bs.length ≤ x) :
    (m.writeBytes a bs).read x = m.read x := by
  induction bs generalizing m a with
  | nil => rfl
  | cons b bs ih =>
    simp only [List.length_cons] at h
    rw [Memory.writeBytes, ih _ (by omega), Memory.read_write_other _ _ (by omega)]

/-- Bytes read back from where they were stored are the bytes stored. -/
@[simp] theorem Memory.readBytes_writeBytes (bs : List Byte) (m : Memory) (a : Nat) :
    (m.writeBytes a bs).readBytes a bs.length = bs := by
  induction bs generalizing m a with
  | nil => rfl
  | cons b bs ih =>
    simp only [List.length_cons, Memory.readBytes, Memory.writeBytes, ih]
    rw [Memory.read_writeBytes_below _ _ (by omega), Memory.read_write_same]

@[simp] theorem Memory.length_readBytes (m : Memory) (a n : Nat) : (m.readBytes a n).length = n := by
  induction n generalizing a with
  | zero => rfl
  | succ n ih => simp [Memory.readBytes, ih]

/-- Bytes read from memories that agree on them are the same. -/
theorem Memory.readBytes_congr {m m' : Memory} {a n : Nat} (h : ∀ x, a ≤ x → x < a + n → m.read x = m'.read x) :
    m.readBytes a n = m'.readBytes a n := by
  induction n generalizing a with
  | zero => rfl
  | succ n ih =>
    simp only [Memory.readBytes]
    rw [h a (Nat.le_refl a) (by omega), ih fun x h1 h2 => h x (by omega) (by omega)]

/-- Byte `j` of `n` bytes read. -/
theorem Memory.getD_readBytes (m : Memory) (a n j : Nat) :
    (m.readBytes a n).getD j 0 = if j < n then m.read (a + j) else 0 := by
  induction n generalizing a j with
  | zero => simp [Memory.readBytes]
  | succ n ih =>
    cases j with
    | zero => simp [Memory.readBytes]
    | succ j =>
      have := ih (a + 1) j
      simp only [Memory.readBytes, List.getD_cons_succ, this, Nat.add_lt_add_iff_right]
      congr 2; omega

/-- The canonical form in the terms of the list: strictly rising addresses inside the space, no byte listed that an unlisted
address reads as. -/
theorem Memory.wf_iff (m : Memory) :
    m.wf = true ↔ m.Pairwise (fun c d => c.1 < d.1) ∧ ∀ c ∈ m, c.1 < Memory.space ∧ c.2 ≠ Memory.unlisted := by
  induction m with
  | nil => simp [Memory.wf]
  | cons c m ih =>
    cases m with
    | nil => simp [Memory.wf]
    | cons d m =>
      simp only [Memory.wf, Bool.and_eq_true, decide_eq_true_eq, bne_iff_ne, ih, List.pairwise_cons, List.mem_cons]
      constructor
      · rintro ⟨⟨hcd, hc⟩, ⟨hd, hm⟩, hall⟩
        refine ⟨⟨?_, hd, hm⟩, ?_⟩
        · rintro e (rfl | he)
          · exact hcd
          · exact Nat.lt_trans hcd (hd e he)
        · rintro e (rfl | he)
          · exact ⟨Nat.lt_trans hcd (hall d (.inl rfl)).1, hc⟩
          · exact hall e he
      · rintro ⟨⟨hc, hd, hm⟩, hall⟩
        exact ⟨⟨hc d (.inl rfl), (hall c (.inl rfl)).2⟩, ⟨hd, hm⟩, fun e he => hall e (.inr he)⟩

theorem Memory.wf_erase {m : Memory} (h : m.wf = true) (a : Nat) : (m.erase a).wf = true := by
  rw [Memory.wf_iff] at h ⊢
  exact ⟨h.1.filter _, fun c hc => h.2 c (List.mem_filter.mp hc).1⟩

theorem Memory.mem_insert {m : Memory} {a : Nat} {b : Byte} {c : Host.Cell} (h : c ∈ m.insert a b) : c = (a, b) ∨ c ∈ m := by
  induction m with
  | nil => simpa [Memory.insert] using h
  | cons d m ih =>
    simp only [Memory.insert] at h
    split at h
    · simpa using h
    · rcases List.mem_cons.mp h with rfl | h
      · simp
      · rcases ih h with h | h <;> simp [h]

theorem Memory.wf_insert {m : Memory} (h : m.wf = true) {a : Nat} {b : Byte} (ha : a < Memory.space) (hb : b ≠ Memory.unlisted)
    (hm : ∀ c ∈ m, c.1 ≠ a) : (m.insert a b).wf = true := by
  rw [Memory.wf_iff] at h ⊢
  obtain ⟨hp, hall⟩ := h
  refine ⟨?_, fun c hc => ?_⟩
  · induction m with
    | nil => simp [Memory.insert]
    | cons d m ih =>
      have hp' := List.pairwise_cons.mp hp
      simp only [Memory.insert]
      split
      · refine List.pairwise_cons.mpr ⟨?_, hp⟩
        rintro e he
        rcases List.mem_cons.mp he with rfl | he
        · assumption
        · exact Nat.lt_trans ‹_› (hp'.1 e he)
      · refine List.pairwise_cons.mpr
          ⟨fun e he => ?_, ih (fun c hc => hm c (by simp [hc])) hp'.2 fun c hc => hall c (by simp [hc])⟩
        rcases Memory.mem_insert he with rfl | he
        · have := hm d (by simp)
          change d.1 < a
          omega
        · exact hp'.1 e he
  · rcases Memory.mem_insert hc with rfl | hc
    · exact ⟨ha, hb⟩
    · exact hall c hc

/-- A store inside the address space keeps the canonical form. -/
theorem Memory.wf_write {m : Memory} (h : m.wf = true) {a : Nat} (b : Byte) (ha : a < Memory.space) : (m.write a b).wf = true := by
  unfold Memory.write
  split
  · exact Memory.wf_erase h a
  · exact Memory.wf_insert (Memory.wf_erase h a) ha ‹_› (Memory.not_mem_erase m a)

/-- A store of several bytes inside the address space keeps the canonical form. -/
theorem Memory.wf_writeBytes (bs : List Byte) {m : Memory} (h : m.wf = true) {a : Nat} (ha : a + bs.length ≤ Memory.space) :
    (m.writeBytes a bs).wf = true := by
  induction bs generalizing m a with
  | nil => exact h
  | cons b bs ih =>
    simp only [List.length_cons] at ha
    exact ih (Memory.wf_write h b (by omega)) (by omega)

@[simp] theorem length_wordBytes (v : Word) : (wordBytes v).length = 4 := rfl

/-- A word stored keeps the canonical form where its four bytes lie in the address space. -/
theorem Memory.wf_writeWord {m : Memory} (h : m.wf = true) {a : Word} (v : Word) (ha : a.toNat + 4 ≤ Memory.space) :
    (m.writeWord a v).wf = true :=
  Memory.wf_writeBytes _ h (by simpa using ha)

/-- The bytes of a stored word, least significant first. -/
theorem Memory.readBytes_writeWord (m : Memory) (a v : Word) : (m.writeWord a v).readBytes a.toNat 4 = wordBytes v :=
  Memory.readBytes_writeBytes (wordBytes v) m a.toNat

/-- A stored word leaves every byte but its four alone. -/
theorem Memory.read_writeWord_other (m : Memory) {a : Word} (v : Word) {x : Nat} (h : x < a.toNat ∨ a.toNat + 4 ≤ x) :
    (m.writeWord a v).read x = m.read x := by
  rcases h with h | h
  · exact Memory.read_writeBytes_below _ _ h
  · exact Memory.read_writeBytes_above _ _ (by simpa using h)

/-- A byte listed in a memory in canonical form is the byte read there. -/
theorem Memory.read_of_mem {m : Memory} (h : m.wf = true) {a : Nat} {b : Byte} (hm : (a, b) ∈ m) : m.read a = b := by
  rw [Memory.wf_iff] at h
  obtain ⟨hp, -⟩ := h
  induction m with
  | nil => cases hm
  | cons c m ih =>
    have hp' := List.pairwise_cons.mp hp
    rcases List.mem_cons.mp hm with rfl | hm
    · simp [Memory.read]
    · have := hp'.1 _ hm
      rw [Memory.read, if_neg (by omega), ih hm hp'.2]

/-- An address that reads as no unlisted one does is listed. -/
theorem Memory.mem_of_read_ne {m : Memory} {a : Nat} (h : m.read a ≠ Memory.unlisted) : (a, m.read a) ∈ m := by
  induction m with
  | nil => exact absurd rfl h
  | cons c m ih =>
    unfold Memory.read at h ⊢
    split
    · rename_i hc
      subst hc
      simp
    · rename_i hc
      rw [if_neg hc] at h
      exact List.mem_cons_of_mem _ (ih h)

/-- The canonical form is one: memories in it that read the same everywhere are equal. -/
theorem Memory.eq_of_read_eq {m n : Memory} (hm : m.wf = true) (hn : n.wf = true) (h : ∀ a, m.read a = n.read a) : m = n := by
  have half : ∀ {m n : Memory}, m.wf = true → n.wf = true → (∀ a, m.read a = n.read a) → ∀ c ∈ m, c ∈ n := by
    intro m n hm hn h c hc
    have hr : n.read c.1 = c.2 := (h c.1).symm.trans (Memory.read_of_mem hm hc)
    have := Memory.mem_of_read_ne (m := n) (a := c.1) (by rw [hr]; exact ((Memory.wf_iff m).mp hm).2 c hc |>.2)
    rwa [hr] at this
  have hp := ((Memory.wf_iff m).mp hm).1
  have hq := ((Memory.wf_iff n).mp hn).1
  refine List.Perm.eq_of_pairwise (le := fun c d => c.1 < d.1) (fun c d _ _ h1 h2 => absurd h1 (by omega)) hp hq ?_
  refine (List.perm_ext_iff_of_nodup (hp.imp fun h => ?_) (hq.imp fun h => ?_)).mpr fun c =>
    ⟨half hm hn h c, half hn hm (fun a => (h a).symm) c⟩
  · rintro rfl
    omega
  · rintro rfl
    omega

end Sys2Proof.Machine
end

