-- ==== Sys2Proof/Laws/State.lean ====
section
/-! SUPPORT. What every update of State leaves in every field: one lemma per field per update. -/

namespace Sys2Proof.Machine

/-! The state with another TRNG record. -/

@[simp] theorem State.setTrng_block_trng (s : State) (x : Trng) : (s.setTrng x).block.trng = x := rfl
@[simp] theorem State.setTrng_block_sha (s : State) (x : Trng) : (s.setTrng x).block.sha = s.block.sha := rfl
@[simp] theorem State.setTrng_block_rosc (s : State) (x : Trng) : (s.setTrng x).block.rosc = s.block.rosc := rfl
@[simp] theorem State.setTrng_block_resets (s : State) (x : Trng) : (s.setTrng x).block.resets = s.block.resets := rfl
@[simp] theorem State.setTrng_randombitMask (s : State) (x : Trng) : (s.setTrng x).randombitMask = s.randombitMask := rfl
@[simp] theorem State.setTrng_regions (s : State) (x : Trng) : (s.setTrng x).regions = s.regions := rfl
@[simp] theorem State.setTrng_draws (s : State) (x : Trng) : (s.setTrng x).draws = s.draws := rfl
@[simp] theorem State.setTrng_requests (s : State) (x : Trng) : (s.setTrng x).requests = s.requests := rfl
@[simp] theorem State.setTrng_response (s : State) (x : Trng) : (s.setTrng x).response = s.response := rfl
@[simp] theorem State.setTrng_mem (s : State) (x : Trng) : (s.setTrng x).mem = s.mem := rfl
@[simp] theorem State.setTrng_pc (s : State) (x : Trng) : (s.setTrng x).pc = s.pc := rfl

/-! The state with another SHA-256 record. -/

@[simp] theorem State.setSha_block_trng (s : State) (x : Sha) : (s.setSha x).block.trng = s.block.trng := rfl
@[simp] theorem State.setSha_block_sha (s : State) (x : Sha) : (s.setSha x).block.sha = x := rfl
@[simp] theorem State.setSha_block_rosc (s : State) (x : Sha) : (s.setSha x).block.rosc = s.block.rosc := rfl
@[simp] theorem State.setSha_block_resets (s : State) (x : Sha) : (s.setSha x).block.resets = s.block.resets := rfl
@[simp] theorem State.setSha_randombitMask (s : State) (x : Sha) : (s.setSha x).randombitMask = s.randombitMask := rfl
@[simp] theorem State.setSha_regions (s : State) (x : Sha) : (s.setSha x).regions = s.regions := rfl
@[simp] theorem State.setSha_draws (s : State) (x : Sha) : (s.setSha x).draws = s.draws := rfl
@[simp] theorem State.setSha_requests (s : State) (x : Sha) : (s.setSha x).requests = s.requests := rfl
@[simp] theorem State.setSha_response (s : State) (x : Sha) : (s.setSha x).response = s.response := rfl
@[simp] theorem State.setSha_mem (s : State) (x : Sha) : (s.setSha x).mem = s.mem := rfl
@[simp] theorem State.setSha_pc (s : State) (x : Sha) : (s.setSha x).pc = s.pc := rfl

/-! The state with another ROSC record. -/

@[simp] theorem State.setRosc_block_trng (s : State) (x : Rosc) : (s.setRosc x).block.trng = s.block.trng := rfl
@[simp] theorem State.setRosc_block_sha (s : State) (x : Rosc) : (s.setRosc x).block.sha = s.block.sha := rfl
@[simp] theorem State.setRosc_block_rosc (s : State) (x : Rosc) : (s.setRosc x).block.rosc = x := rfl
@[simp] theorem State.setRosc_block_resets (s : State) (x : Rosc) : (s.setRosc x).block.resets = s.block.resets := rfl
@[simp] theorem State.setRosc_randombitMask (s : State) (x : Rosc) : (s.setRosc x).randombitMask = s.randombitMask := rfl
@[simp] theorem State.setRosc_regions (s : State) (x : Rosc) : (s.setRosc x).regions = s.regions := rfl
@[simp] theorem State.setRosc_draws (s : State) (x : Rosc) : (s.setRosc x).draws = s.draws := rfl
@[simp] theorem State.setRosc_requests (s : State) (x : Rosc) : (s.setRosc x).requests = s.requests := rfl
@[simp] theorem State.setRosc_response (s : State) (x : Rosc) : (s.setRosc x).response = s.response := rfl
@[simp] theorem State.setRosc_mem (s : State) (x : Rosc) : (s.setRosc x).mem = s.mem := rfl
@[simp] theorem State.setRosc_pc (s : State) (x : Rosc) : (s.setRosc x).pc = s.pc := rfl

/-! The state with another RESETS record. -/

@[simp] theorem State.setResets_block_trng (s : State) (x : Resets) : (s.setResets x).block.trng = s.block.trng := rfl
@[simp] theorem State.setResets_block_sha (s : State) (x : Resets) : (s.setResets x).block.sha = s.block.sha := rfl
@[simp] theorem State.setResets_block_rosc (s : State) (x : Resets) : (s.setResets x).block.rosc = s.block.rosc := rfl
@[simp] theorem State.setResets_block_resets (s : State) (x : Resets) : (s.setResets x).block.resets = x := rfl
@[simp] theorem State.setResets_randombitMask (s : State) (x : Resets) : (s.setResets x).randombitMask = s.randombitMask := rfl
@[simp] theorem State.setResets_regions (s : State) (x : Resets) : (s.setResets x).regions = s.regions := rfl
@[simp] theorem State.setResets_draws (s : State) (x : Resets) : (s.setResets x).draws = s.draws := rfl
@[simp] theorem State.setResets_requests (s : State) (x : Resets) : (s.setResets x).requests = s.requests := rfl
@[simp] theorem State.setResets_response (s : State) (x : Resets) : (s.setResets x).response = s.response := rfl
@[simp] theorem State.setResets_mem (s : State) (x : Resets) : (s.setResets x).mem = s.mem := rfl
@[simp] theorem State.setResets_pc (s : State) (x : Resets) : (s.setResets x).pc = s.pc := rfl

/-! The state with more draws taken. -/

@[simp] theorem State.takeDraws_block_trng (s : State) (n : Nat) : (s.takeDraws n).block.trng = s.block.trng := rfl
@[simp] theorem State.takeDraws_block_sha (s : State) (n : Nat) : (s.takeDraws n).block.sha = s.block.sha := rfl
@[simp] theorem State.takeDraws_block_rosc (s : State) (n : Nat) : (s.takeDraws n).block.rosc = s.block.rosc := rfl
@[simp] theorem State.takeDraws_block_resets (s : State) (n : Nat) : (s.takeDraws n).block.resets = s.block.resets := rfl
@[simp] theorem State.takeDraws_randombitMask (s : State) (n : Nat) : (s.takeDraws n).randombitMask = s.randombitMask := rfl
@[simp] theorem State.takeDraws_regions (s : State) (n : Nat) : (s.takeDraws n).regions = s.regions := rfl
@[simp] theorem State.takeDraws_draws (s : State) (n : Nat) : (s.takeDraws n).draws = s.draws + n := rfl
@[simp] theorem State.takeDraws_requests (s : State) (n : Nat) : (s.takeDraws n).requests = s.requests := rfl
@[simp] theorem State.takeDraws_response (s : State) (n : Nat) : (s.takeDraws n).response = s.response := rfl
@[simp] theorem State.takeDraws_mem (s : State) (n : Nat) : (s.takeDraws n).mem = s.mem := rfl
@[simp] theorem State.takeDraws_pc (s : State) (n : Nat) : (s.takeDraws n).pc = s.pc := rfl

/-! The state with another answer. -/

@[simp] theorem State.answer_block_trng (s : State) (r : Response) : (s.answer r).block.trng = s.block.trng := rfl
@[simp] theorem State.answer_block_sha (s : State) (r : Response) : (s.answer r).block.sha = s.block.sha := rfl
@[simp] theorem State.answer_block_rosc (s : State) (r : Response) : (s.answer r).block.rosc = s.block.rosc := rfl
@[simp] theorem State.answer_block_resets (s : State) (r : Response) : (s.answer r).block.resets = s.block.resets := rfl
@[simp] theorem State.answer_randombitMask (s : State) (r : Response) : (s.answer r).randombitMask = s.randombitMask := rfl
@[simp] theorem State.answer_regions (s : State) (r : Response) : (s.answer r).regions = s.regions := rfl
@[simp] theorem State.answer_draws (s : State) (r : Response) : (s.answer r).draws = s.draws := rfl
@[simp] theorem State.answer_requests (s : State) (r : Response) : (s.answer r).requests = s.requests := rfl
@[simp] theorem State.answer_response (s : State) (r : Response) : (s.answer r).response = r := rfl
@[simp] theorem State.answer_mem (s : State) (r : Response) : (s.answer r).mem = s.mem := rfl
@[simp] theorem State.answer_pc (s : State) (r : Response) : (s.answer r).pc = s.pc := rfl

/-! The state with a read completed through the trap. -/

@[simp] theorem State.answerRead_block_trng (s : State) (a v : Word) : (s.answerRead a v).block.trng = s.block.trng := rfl
@[simp] theorem State.answerRead_block_sha (s : State) (a v : Word) : (s.answerRead a v).block.sha = s.block.sha := rfl
@[simp] theorem State.answerRead_block_rosc (s : State) (a v : Word) : (s.answerRead a v).block.rosc = s.block.rosc := rfl
@[simp] theorem State.answerRead_block_resets (s : State) (a v : Word) : (s.answerRead a v).block.resets = s.block.resets := rfl
@[simp] theorem State.answerRead_randombitMask (s : State) (a v : Word) : (s.answerRead a v).randombitMask = s.randombitMask := rfl
@[simp] theorem State.answerRead_regions (s : State) (a v : Word) : (s.answerRead a v).regions = s.regions := rfl
@[simp] theorem State.answerRead_draws (s : State) (a v : Word) : (s.answerRead a v).draws = s.draws := rfl
@[simp] theorem State.answerRead_requests (s : State) (a v : Word) : (s.answerRead a v).requests = s.requests := rfl
@[simp] theorem State.answerRead_response (s : State) (a v : Word) : (s.answerRead a v).response = .value v := rfl
@[simp] theorem State.answerRead_mem (s : State) (a v : Word) : (s.answerRead a v).mem = s.mem.writeWord a v := rfl
@[simp] theorem State.answerRead_pc (s : State) (a v : Word) : (s.answerRead a v).pc = s.pc := rfl

/-! The state with a write completed through the trap. -/

@[simp] theorem State.finishWrite_block_trng (s : State) (a v : Word) : (s.finishWrite a v).block.trng = s.block.trng := rfl
@[simp] theorem State.finishWrite_block_sha (s : State) (a v : Word) : (s.finishWrite a v).block.sha = s.block.sha := rfl
@[simp] theorem State.finishWrite_block_rosc (s : State) (a v : Word) : (s.finishWrite a v).block.rosc = s.block.rosc := rfl
@[simp] theorem State.finishWrite_block_resets (s : State) (a v : Word) : (s.finishWrite a v).block.resets = s.block.resets := rfl
@[simp] theorem State.finishWrite_randombitMask (s : State) (a v : Word) : (s.finishWrite a v).randombitMask = s.randombitMask := rfl
@[simp] theorem State.finishWrite_regions (s : State) (a v : Word) : (s.finishWrite a v).regions = s.regions := rfl
@[simp] theorem State.finishWrite_draws (s : State) (a v : Word) : (s.finishWrite a v).draws = s.draws := rfl
@[simp] theorem State.finishWrite_requests (s : State) (a v : Word) : (s.finishWrite a v).requests = s.requests := rfl
@[simp] theorem State.finishWrite_response (s : State) (a v : Word) : (s.finishWrite a v).response = .done := rfl
@[simp] theorem State.finishWrite_mem (s : State) (a v : Word) : (s.finishWrite a v).mem = s.mem.writeWord a v := rfl
@[simp] theorem State.finishWrite_pc (s : State) (a v : Word) : (s.finishWrite a v).pc = s.pc := rfl

/-! The state with a pool refresh. -/

@[simp] theorem State.refresh_block_trng (s : State) : (s.refresh).block.trng = { s.block.trng with pool := drawPool s.draws } := rfl
@[simp] theorem State.refresh_block_sha (s : State) : (s.refresh).block.sha = s.block.sha := rfl
@[simp] theorem State.refresh_block_rosc (s : State) : (s.refresh).block.rosc = s.block.rosc := rfl
@[simp] theorem State.refresh_block_resets (s : State) : (s.refresh).block.resets = s.block.resets := rfl
@[simp] theorem State.refresh_randombitMask (s : State) : (s.refresh).randombitMask = s.randombitMask := rfl
@[simp] theorem State.refresh_regions (s : State) : (s.refresh).regions = s.regions := rfl
@[simp] theorem State.refresh_draws (s : State) : (s.refresh).draws = s.draws + 6 := rfl
@[simp] theorem State.refresh_requests (s : State) : (s.refresh).requests = s.requests := rfl
@[simp] theorem State.refresh_response (s : State) : (s.refresh).response = s.response := rfl
@[simp] theorem State.refresh_mem (s : State) : (s.refresh).mem = s.mem := rfl
@[simp] theorem State.refresh_pc (s : State) : (s.refresh).pc = s.pc := rfl

/-! The state with a re-initialised TRNG. -/

@[simp] theorem State.reinitTrng_block_trng (s : State) : (s.reinitTrng).block.trng = Trng.initial (drawPool s.draws) := rfl
@[simp] theorem State.reinitTrng_block_sha (s : State) : (s.reinitTrng).block.sha = s.block.sha := rfl
@[simp] theorem State.reinitTrng_block_rosc (s : State) : (s.reinitTrng).block.rosc = s.block.rosc := rfl
@[simp] theorem State.reinitTrng_block_resets (s : State) : (s.reinitTrng).block.resets = s.block.resets := rfl
@[simp] theorem State.reinitTrng_randombitMask (s : State) : (s.reinitTrng).randombitMask = s.randombitMask := rfl
@[simp] theorem State.reinitTrng_regions (s : State) : (s.reinitTrng).regions = s.regions := rfl
@[simp] theorem State.reinitTrng_draws (s : State) : (s.reinitTrng).draws = s.draws + 6 := rfl
@[simp] theorem State.reinitTrng_requests (s : State) : (s.reinitTrng).requests = s.requests := rfl
@[simp] theorem State.reinitTrng_response (s : State) : (s.reinitTrng).response = s.response := rfl
@[simp] theorem State.reinitTrng_mem (s : State) : (s.reinitTrng).mem = s.mem := rfl
@[simp] theorem State.reinitTrng_pc (s : State) : (s.reinitTrng).pc = s.pc := rfl

/-! The state with a re-initialised SHA-256 accelerator. -/

@[simp] theorem State.reinitSha_block_trng (s : State) : (s.reinitSha).block.trng = s.block.trng := rfl
@[simp] theorem State.reinitSha_block_sha (s : State) : (s.reinitSha).block.sha = Sha.initial := rfl
@[simp] theorem State.reinitSha_block_rosc (s : State) : (s.reinitSha).block.rosc = s.block.rosc := rfl
@[simp] theorem State.reinitSha_block_resets (s : State) : (s.reinitSha).block.resets = s.block.resets := rfl
@[simp] theorem State.reinitSha_randombitMask (s : State) : (s.reinitSha).randombitMask = s.randombitMask := rfl
@[simp] theorem State.reinitSha_regions (s : State) : (s.reinitSha).regions = s.regions := rfl
@[simp] theorem State.reinitSha_draws (s : State) : (s.reinitSha).draws = s.draws := rfl
@[simp] theorem State.reinitSha_requests (s : State) : (s.reinitSha).requests = s.requests := rfl
@[simp] theorem State.reinitSha_response (s : State) : (s.reinitSha).response = s.response := rfl
@[simp] theorem State.reinitSha_mem (s : State) : (s.reinitSha).mem = s.mem := rfl
@[simp] theorem State.reinitSha_pc (s : State) : (s.reinitSha).pc = s.pc := rfl

/-! The state with its oldest request taken. -/

@[simp] theorem State.takeRequest_block_trng (s : State) : (s.takeRequest).block.trng = s.block.trng := rfl
@[simp] theorem State.takeRequest_block_sha (s : State) : (s.takeRequest).block.sha = s.block.sha := rfl
@[simp] theorem State.takeRequest_block_rosc (s : State) : (s.takeRequest).block.rosc = s.block.rosc := rfl
@[simp] theorem State.takeRequest_block_resets (s : State) : (s.takeRequest).block.resets = s.block.resets := rfl
@[simp] theorem State.takeRequest_randombitMask (s : State) : (s.takeRequest).randombitMask = s.randombitMask := rfl
@[simp] theorem State.takeRequest_regions (s : State) : (s.takeRequest).regions = s.regions := rfl
@[simp] theorem State.takeRequest_draws (s : State) : (s.takeRequest).draws = s.draws := rfl
@[simp] theorem State.takeRequest_requests (s : State) : (s.takeRequest).requests = s.requests.tail := rfl
@[simp] theorem State.takeRequest_response (s : State) : (s.takeRequest).response = s.response := rfl
@[simp] theorem State.takeRequest_mem (s : State) : (s.takeRequest).mem = s.mem := rfl
@[simp] theorem State.takeRequest_pc (s : State) : (s.takeRequest).pc = s.pc := rfl

/-! The state with one more request presented. -/

@[simp] theorem State.present_block_trng (s : State) (r : Request) : (s.present r).block.trng = s.block.trng := rfl
@[simp] theorem State.present_block_sha (s : State) (r : Request) : (s.present r).block.sha = s.block.sha := rfl
@[simp] theorem State.present_block_rosc (s : State) (r : Request) : (s.present r).block.rosc = s.block.rosc := rfl
@[simp] theorem State.present_block_resets (s : State) (r : Request) : (s.present r).block.resets = s.block.resets := rfl
@[simp] theorem State.present_randombitMask (s : State) (r : Request) : (s.present r).randombitMask = s.randombitMask := rfl
@[simp] theorem State.present_regions (s : State) (r : Request) : (s.present r).regions = s.regions := rfl
@[simp] theorem State.present_draws (s : State) (r : Request) : (s.present r).draws = s.draws := rfl
@[simp] theorem State.present_requests (s : State) (r : Request) : (s.present r).requests = r :: s.requests := rfl
@[simp] theorem State.present_response (s : State) (r : Request) : (s.present r).response = s.response := rfl
@[simp] theorem State.present_mem (s : State) (r : Request) : (s.present r).mem = s.mem := rfl
@[simp] theorem State.present_pc (s : State) (r : Request) : (s.present r).pc = s.pc := rfl

end Sys2Proof.Machine
end

