-- ==== Sys2Proof/Laws/Ops.lean ====
section
/-! SUPPORT. What each shared operation does, once: the trap's store, a register read and write, the RESET write, the SHA-256 word
push, the harness's service, and what any instruction can do to the state when it answers a next one. -/

namespace Sys2Proof.Machine

/-- The trap's store is a store of the word (R228, R229). -/
theorem storesWord_writeWord (m : Memory) (a v : Word) : StoresWord m a v (m.writeWord a v) :=
  ⟨Memory.readBytes_writeWord m a v, fun _ => Memory.read_writeWord_other m v⟩

/-- A register read answers at the register's address. -/
theorem readAnswers_of_readRegister {i : Instr} {p : Periph} {off : BitVec 12} {v : Word} {s : State} (a : Word)
    (ha : p.address off = a) (h : exec i s = readRegister p off v s) : ReadAnswers i a v s := by
  subst ha
  exact ⟨_, storesWord_writeWord _ _ _, h⟩

/-- A register write completes at the register's address, with the block and the draws its effect left. -/
theorem writeLeaves_of_writeRegister {i : Instr} {p : Periph} {off : BitVec 12} {v : Word} {s s' : State} {b : Block} {n : Nat}
    (a : Word) (ha : p.address off = a) (h : exec i s = writeRegister p off v s')
    (hs : s' = { s with block := b, draws := s.draws + n }) : WriteLeaves i a v b n s := by
  subst ha hs
  exact ⟨_, storesWord_writeWord _ _ _, h⟩

/-- A RESET write, field by field (R202). -/
theorem State.writeReset_eq (s : State) (v : Word) :
    s.writeReset v =
      { s with
        block :=
          { trng := if released s.block.resets.reset v resetsTrngBit then Trng.initial (drawPool s.draws) else s.block.trng
            sha := if released s.block.resets.reset v resetsShaBit then Sha.initial else s.block.sha
            rosc := s.block.rosc
            resets := { reset := v } }
        draws := s.draws + if released s.block.resets.reset v resetsTrngBit then 6 else 0 } := by
  unfold State.writeReset
  by_cases h1 : released s.block.resets.reset v resetsTrngBit = true <;>
    by_cases h2 : released s.block.resets.reset v resetsShaBit = true <;>
    simp only [h1, h2] <;> rfl

/-- A word that does not complete a block is queued (R144). -/
theorem Sha.push_partial {sha : Sha} (v : Word) (h : sha.queue.length ≠ 15) :
    sha.push v = { sha with queue := sha.queue ++ [v], sumVld := false } := by
  have : ¬ (sha.queue ++ [v]).length = Config.shaBlockWords := by
    simp only [List.length_append, List.length_singleton, Config.shaBlockWords]
    omega
  simp only [Sha.push, this, if_false]

/-- The word that completes a block compresses it (R144, R148). -/
theorem Sha.push_complete {sha : Sha} (v : Word) (h : sha.queue.length = 15) :
    sha.push v = { sha with h := compress sha.h ((sha.queue ++ [v]).map (msgWord sha.bswap)), queue := [], sumVld := true } := by
  have : (sha.queue ++ [v]).length = Config.shaBlockWords := by
    simp [h, Config.shaBlockWords]
  simp only [Sha.push, this, if_true]

/-- A CSR write with the action bit starts (R142, R143). -/
theorem Sha.writeCsr_start {sha : Sha} {v : Word} (h : actionBit v = true) :
    sha.writeCsr v = { bswap := bswapField v, dmaSize := dmaSizeField v, sumVld := true, queue := [], h := hashInit } := by
  simp only [Sha.writeCsr, h, if_true, Sha.start]

/-- A CSR write without the action bit stores the control fields alone (R142). -/
theorem Sha.writeCsr_store {sha : Sha} {v : Word} (h : actionBit v = false) :
    sha.writeCsr v = { sha with dmaSize := dmaSizeField v, bswap := bswapField v } := by
  simp [Sha.writeCsr, h]

/-- A region serves exactly the reads, writes and fetches whose bytes it holds. -/
theorem State.servedBytes_eq_some_iff {s : State} {t : Transaction} {n : Nat} :
    s.servedBytes t = some n ↔ t.access ≠ .reserved ∧ accessBytes t.size = some n ∧ s.maps t.addr n = true := by
  unfold State.servedBytes
  split <;> simp [*, Option.filter_eq_some_iff]

/-- The bytes a region serves lie in the address space and outside the window. -/
theorem State.maps_bounds {s : State} {a : Word} {n : Nat} (h : s.maps a n = true) :
    a.toNat + n ≤ Memory.space ∧ (a.toNat + n ≤ 0x40000000 ∨ 0x40100000 ≤ a.toNat) := by
  simp only [State.maps, List.any_eq_true, regionHolds, clearOfWindow, Bool.and_eq_true, decide_eq_true_eq] at h
  obtain ⟨_, _, ⟨_, _, hs⟩, hw⟩ := h
  exact ⟨hs, hw⟩

/-- An access no region serves is an unmapped access (R227, R261). -/
theorem harnessAccess_unserved {s : State} {t : Transaction} (h : s.servedBytes t = none) :
    harnessAccess t s = .fault (.unmappedAccess t.addr s.pc) := by
  simp only [harnessAccess, h]

/-- What an access the harness serves can leave: an answer, or bytes stored inside the address space and outside the window, and
an answer. -/
theorem harnessAccess_next {t : Transaction} {s u : State} (h : harnessAccess t s = .next u) :
    (∃ w, u = s.answer (.value w)) ∨
    ∃ bs : List Byte, t.addr.toNat + bs.length ≤ Memory.space ∧
      (t.addr.toNat + bs.length ≤ 0x40000000 ∨ 0x40100000 ≤ t.addr.toNat) ∧
      u = { s with mem := s.mem.writeBytes t.addr.toNat bs, response := .done } := by
  unfold harnessAccess at h
  split at h
  · exact .inl ⟨_, by cases h; rfl⟩
  · rename_i n v hn _
    obtain ⟨hs, hw⟩ := State.maps_bounds (State.servedBytes_eq_some_iff.mp hn).2.2
    refine .inr ⟨(wordBytes v).take n, ?_, ?_, by cases h; rfl⟩
    · rw [List.length_take]
      omega
    · rw [List.length_take]
      omega
  · exact .inl ⟨_, by cases h; rfl⟩
  · cases h
  · cases h

/-- How the block state can change in one instruction: in one peripheral's record, or by a RESET write. -/
inductive BlockChange (s : State) : Block → Nat → Prop where
  | same (n : Nat) : BlockChange s s.block n
  | trngStore (imr config srcEnable sampleCnt1 debugControl : Word) :
      BlockChange s { s.block with trng := { s.block.trng with
        imr := imr, config := config, srcEnable := srcEnable, sampleCnt1 := sampleCnt1, debugControl := debugControl } } 0
  | trngRefresh (srcEnable : Word) :
      BlockChange s { s.block with trng := { s.block.trng with srcEnable := srcEnable, pool := drawPool s.draws } } 6
  | trngReinit : BlockChange s { s.block with trng := Trng.initial (drawPool s.draws) } 6
  | csr (v : Word) : BlockChange s { s.block with sha := s.block.sha.writeCsr v } 0
  | wdata (v : Word) : BlockChange s { s.block with sha := s.block.sha.push v } 0
  | rosc (x : Rosc) : BlockChange s { s.block with rosc := x } 0
  | reset (v : Word) :
      BlockChange s (s.writeReset v).block (if released s.block.resets.reset v resetsTrngBit then 6 else 0)

/-- How the emulator's memory can change in one instruction: not at all, by the trap's word at the address of a window access, or by
bytes stored outside the window by an access there. -/
inductive MemChange (m : Memory) (i : Instr) : Memory → Prop where
  | same : MemChange m i m
  | window (a : Word) (v : Word) (h : encode i = .bus ⟨.data .read, 2#2, a⟩ ∨ ∃ w, encode i = .bus ⟨.data (.write w), 2#2, a⟩) :
      MemChange m i (m.writeWord a v)
  | outside (t : Transaction) (bs : List Byte) (hi : i = .outsideWindow t) (h : t.addr.toNat + bs.length ≤ Memory.space)
      (hw : t.addr.toNat + bs.length ≤ 0x40000000 ∨ 0x40100000 ≤ t.addr.toNat) : MemChange m i (m.writeBytes t.addr.toNat bs)

/-- What an instruction that answers a next state can have done: the state is as before but for one change of the block, the draws
that go with it, the memory and the answer. -/
def NextShape (i : Instr) (s t : State) : Prop :=
  ∃ b n m r, BlockChange s b n ∧ MemChange s.mem i m ∧
    t = { s with block := b, draws := s.draws + n, mem := m, response := r }

theorem NextShape.of_readRegister {i : Instr} {p : Periph} {off : BitVec 12} {v : Word} {s t : State} (n : Nat)
    (hi : encode i = wordAccess .read (p.address off)) (h : readRegister p off v (s.takeDraws n) = .next t) :
    NextShape i s t := by
  cases h
  exact ⟨_, n, _, _, .same n, .window _ v (.inl hi), rfl⟩

theorem NextShape.of_writeRegister {i : Instr} {p : Periph} {off : BitVec 12} {v : Word} {s s' t : State} {b : Block} {n : Nat}
    (hi : encode i = wordAccess (.write v) (p.address off)) (h : writeRegister p off v s' = .next t)
    (hs : s' = { s with block := b, draws := s.draws + n }) (hb : BlockChange s b n) : NextShape i s t := by
  subst hs
  cases h
  exact ⟨_, n, _, _, hb, .window _ v (.inr ⟨v, hi⟩), rfl⟩

end Sys2Proof.Machine
end

