-- ==== Sys2Proof/Laws/Exec.lean ====
section
/-! SUPPORT. The inversion lemma of `exec`: whatever an instruction that answers a next state can have done. -/

namespace Sys2Proof.Machine

/-- A state is itself with its own block and no more draws. -/
theorem State.self_eq (s : State) : s = { s with block := s.block, draws := s.draws + 0 } := rfl

/-- Every instruction that answers a next state has done one of the changes of `NextShape`. -/
theorem exec_next_shape {i : Instr} {s t : State} (h : exec i s = .next t) : NextShape i s t := by
  cases i with
  | trngRngImrR => exact .of_readRegister 0 rfl h
  | trngRngImrW v => exact .of_writeRegister rfl h rfl (.trngStore v _ _ _ _)
  | trngRngIsrR => exact .of_readRegister 0 rfl h
  | trngRngIsrW v => exact .of_writeRegister rfl h (State.self_eq s) (.same 0)
  | trngRngIcrR => exact .of_readRegister 0 rfl h
  | trngRngIcrW v =>
    by_cases hv : actionBit v = true
    · exact .of_writeRegister (n := 6) rfl h (by rw [if_pos hv]; rfl) (.trngRefresh _)
    · exact .of_writeRegister (n := 0) rfl h (by rw [if_neg hv]; rfl) (.same 0)
  | trngTrngConfigR => exact .of_readRegister 0 rfl h
  | trngTrngConfigW v => exact .of_writeRegister rfl h rfl (.trngStore _ v _ _ _)
  | trngTrngValidR => exact .of_readRegister 0 rfl h
  | trngTrngValidW v => exact .of_writeRegister rfl h (State.self_eq s) (.same 0)
  | trngEhrData0R => exact .of_readRegister 0 rfl h
  | trngEhrData0W v => exact .of_writeRegister rfl h (State.self_eq s) (.same 0)
  | trngEhrData1R => exact .of_readRegister 0 rfl h
  | trngEhrData1W v => exact .of_writeRegister rfl h (State.self_eq s) (.same 0)
  | trngEhrData2R => exact .of_readRegister 0 rfl h
  | trngEhrData2W v => exact .of_writeRegister rfl h (State.self_eq s) (.same 0)
  | trngEhrData3R => exact .of_readRegister 0 rfl h
  | trngEhrData3W v => exact .of_writeRegister rfl h (State.self_eq s) (.same 0)
  | trngEhrData4R => exact .of_readRegister 0 rfl h
  | trngEhrData4W v => exact .of_writeRegister rfl h (State.self_eq s) (.same 0)
  | trngEhrData5R => exact .of_readRegister 0 rfl h
  | trngEhrData5W v => exact .of_writeRegister rfl h (State.self_eq s) (.same 0)
  | trngRndSourceEnableR => exact .of_readRegister 0 rfl h
  | trngRndSourceEnableW v =>
    by_cases hv : actionBit v = true
    · exact .of_writeRegister (n := 6) rfl h (by rw [if_pos hv]; rfl) (.trngRefresh v)
    · exact .of_writeRegister (n := 0) rfl h (by rw [if_neg hv]; rfl) (.trngStore _ _ v _ _)
  | trngSampleCnt1R => exact .of_readRegister 0 rfl h
  | trngSampleCnt1W v => exact .of_writeRegister rfl h rfl (.trngStore _ _ _ v _)
  | trngTrngDebugControlR => exact .of_readRegister 0 rfl h
  | trngTrngDebugControlW v => exact .of_writeRegister rfl h rfl (.trngStore _ _ _ _ v)
  | trngTrngSwResetR => exact .of_readRegister 0 rfl h
  | trngTrngSwResetW v =>
    by_cases hv : actionBit v = true
    · exact .of_writeRegister (n := 6) rfl h (by rw [if_pos hv]; rfl) .trngReinit
    · exact .of_writeRegister (n := 0) rfl h (by rw [if_neg hv]; rfl) (.same 0)
  | trngTrngBusyR => exact .of_readRegister 0 rfl h
  | trngTrngBusyW v => exact .of_writeRegister rfl h (State.self_eq s) (.same 0)
  | sha256CsrR => exact .of_readRegister 0 rfl h
  | sha256CsrW v => exact .of_writeRegister rfl h rfl (.csr v)
  | sha256WdataR => exact .of_readRegister 0 rfl h
  | sha256WdataW v => exact .of_writeRegister rfl h rfl (.wdata v)
  | sha256Sum0R => exact .of_readRegister 0 rfl h
  | sha256Sum0W v => exact .of_writeRegister rfl h (State.self_eq s) (.same 0)
  | sha256Sum1R => exact .of_readRegister 0 rfl h
  | sha256Sum1W v => exact .of_writeRegister rfl h (State.self_eq s) (.same 0)
  | sha256Sum2R => exact .of_readRegister 0 rfl h
  | sha256Sum2W v => exact .of_writeRegister rfl h (State.self_eq s) (.same 0)
  | sha256Sum3R => exact .of_readRegister 0 rfl h
  | sha256Sum3W v => exact .of_writeRegister rfl h (State.self_eq s) (.same 0)
  | sha256Sum4R => exact .of_readRegister 0 rfl h
  | sha256Sum4W v => exact .of_writeRegister rfl h (State.self_eq s) (.same 0)
  | sha256Sum5R => exact .of_readRegister 0 rfl h
  | sha256Sum5W v => exact .of_writeRegister rfl h (State.self_eq s) (.same 0)
  | sha256Sum6R => exact .of_readRegister 0 rfl h
  | sha256Sum6W v => exact .of_writeRegister rfl h (State.self_eq s) (.same 0)
  | sha256Sum7R => exact .of_readRegister 0 rfl h
  | sha256Sum7W v => exact .of_writeRegister rfl h (State.self_eq s) (.same 0)
  | roscCtrlR => exact .of_readRegister 0 rfl h
  | roscCtrlW v => exact .of_writeRegister rfl h rfl (.rosc _)
  | roscFreqaR => exact .of_readRegister 0 rfl h
  | roscFreqaW v => exact .of_writeRegister rfl h rfl (.rosc _)
  | roscFreqbR => exact .of_readRegister 0 rfl h
  | roscFreqbW v => exact .of_writeRegister rfl h rfl (.rosc _)
  | roscDormantR => exact .of_readRegister 0 rfl h
  | roscDormantW v => exact .of_writeRegister rfl h rfl (.rosc _)
  | roscDivR => exact .of_readRegister 0 rfl h
  | roscDivW v => exact .of_writeRegister rfl h rfl (.rosc _)
  | roscPhaseR => exact .of_readRegister 0 rfl h
  | roscPhaseW v => exact .of_writeRegister rfl h rfl (.rosc _)
  | roscStatusR => exact .of_readRegister 0 rfl h
  | roscStatusW v => exact .of_writeRegister rfl h rfl (.rosc _)
  | roscRandombitR => exact .of_readRegister 1 rfl h
  | roscRandombitW v => exact .of_writeRegister rfl h (State.self_eq s) (.same 0)
  | resetsResetR => exact .of_readRegister 0 rfl h
  | resetsResetW v => exact .of_writeRegister rfl h (by rw [State.writeReset_eq]) (.reset v)
  | resetsUnknownR off => exact .of_readRegister 0 rfl h
  | resetsUnknownW off v => exact .of_writeRegister rfl h (State.self_eq s) (.same 0)
  | roscUnknownR off => exact .of_readRegister 0 rfl h
  | roscUnknownW off v => exact .of_writeRegister rfl h (State.self_eq s) (.same 0)
  | trngUnknownR off => exact .of_readRegister 0 rfl h
  | trngUnknownW off v => exact .of_writeRegister rfl h (State.self_eq s) (.same 0)
  | sha256UnknownR off => exact .of_readRegister 0 rfl h
  | sha256UnknownW off v => exact .of_writeRegister rfl h (State.self_eq s) (.same 0)
  | windowUnmappedR a => cases h; exact ⟨_, 0, _, _, .same 0, .window a _ (.inl rfl), rfl⟩
  | windowUnmappedW a v => cases h; exact ⟨_, 0, _, _, .same 0, .window a v (.inr ⟨v, rfl⟩), rfl⟩
  | refuseFetch size a => cases h
  | refuseReservedKind size a => cases h
  | refuseReservedSize acc a => cases h
  | refuseSubword acc half a => cases h
  | refuseMisalignedOdd acc a => cases h
  | refuseMisalignedHalf acc a => cases h
  | outsideWindow t =>
    rcases harnessAccess_next h with ⟨w, rfl⟩ | ⟨bs, hb, hw, rfl⟩
    · exact ⟨_, 0, _, _, .same 0, .same, rfl⟩
    · exact ⟨_, 0, _, _, .same 0, .outside t bs rfl hb hw, rfl⟩
  | shareSplitKey key =>
    simp only [exec, execShareSplitKey] at h
    split at h <;> cases h
    · exact ⟨_, 24, _, _, .same 24, .same, rfl⟩
    · exact ⟨_, 0, _, _, .same 0, .same, rfl⟩
  | shareSplitIV iv =>
    simp only [exec, execShareSplitIV] at h
    split at h <;> cases h
    · exact ⟨_, 1, _, _, .same 1, .same, rfl⟩
    · exact ⟨_, 0, _, _, .same 0, .same, rfl⟩
  | shareJoinKey shares =>
    simp only [exec, execShareJoinKey] at h
    split at h <;> cases h
    · exact ⟨_, 0, _, _, .same 0, .same, rfl⟩
    · exact ⟨_, 0, _, _, .same 0, .same, rfl⟩

end Sys2Proof.Machine
end

