-- ==== Sys2Proof/Laws/Table.lean ====
section
/-! SUPPORT. The masks of spec/opcode_table.json in the terms of the address map: what a row's `key & mask = match` says of a
transaction's kind, size and address. -/

namespace Sys2Proof

/-- A masked comparison falls apart into the comparisons of two parts of the mask. -/
theorem and_or_eq_iff {w : Nat} (x m n p : BitVec w) (hp : p &&& (m ||| n) = p) :
    x &&& (m ||| n) = p ↔ x &&& m = p &&& m ∧ x &&& n = p &&& n := by
  constructor
  · rintro rfl
    constructor <;> (apply BitVec.eq_of_getLsbD_eq; intro i _; simp only [BitVec.getLsbD_and, BitVec.getLsbD_or]
                     cases x.getLsbD i <;> cases m.getLsbD i <;> cases n.getLsbD i <;> rfl)
  · rintro ⟨h1, h2⟩
    have : x &&& (m ||| n) = (x &&& m) ||| (x &&& n) := by
      apply BitVec.eq_of_getLsbD_eq; intro i _; simp only [BitVec.getLsbD_and, BitVec.getLsbD_or]
      cases x.getLsbD i <;> cases m.getLsbD i <;> cases n.getLsbD i <;> rfl
    rw [this, h1, h2]
    conv_rhs => rw [← hp]
    apply BitVec.eq_of_getLsbD_eq; intro i _; simp only [BitVec.getLsbD_and, BitVec.getLsbD_or]
    cases p.getLsbD i <;> cases m.getLsbD i <;> cases n.getLsbD i <;> rfl

/-- A mask of all bits from `k` up clears the bits below. -/
theorem toNat_and_high (a : Word) (k : Nat) (hk : k < 32) (m : Word) (hm : m = BitVec.allOnes 32 <<< k) :
    (a &&& m).toNat = a.toNat / 2 ^ k * 2 ^ k := by
  have : a &&& m = (a >>> k) <<< k := by
    subst hm
    apply BitVec.eq_of_getLsbD_eq
    intro i hi
    have e : ¬ i < k → k + (i - k) = i := by omega
    have hik : i - k < 32 := by omega
    simp only [BitVec.getLsbD_and, BitVec.getLsbD_shiftLeft, BitVec.getLsbD_ushiftRight, BitVec.getLsbD_allOnes]
    by_cases h : i < k <;> simp [hi, h, e, hik]
  rw [this, BitVec.toNat_shiftLeft, BitVec.toNat_ushiftRight, Nat.shiftLeft_eq, Nat.shiftRight_eq_div_pow]
  apply Nat.mod_eq_of_lt
  exact Nat.lt_of_le_of_lt (Nat.div_mul_le_self _ _) a.isLt

theorem toNat_and_three (a : Word) : (a &&& 3#32).toNat = a.toNat % 4 := by
  rw [BitVec.toNat_and]
  exact Nat.and_two_pow_sub_one_eq_mod a.toNat 2

theorem toNat_and_one (a : Word) : (a &&& 1#32).toNat = a.toNat % 2 := by
  rw [BitVec.toNat_and]
  exact Nat.and_two_pow_sub_one_eq_mod a.toNat 1

theorem inWindow_iff (a : Word) : inWindow a = true ↔ a.toNat / 0x100000 = 0x400 := by
  have := a.isLt
  simp only [inWindow, decide_eq_true_eq]
  omega

theorem aligned_iff (a : Word) : aligned a = true ↔ a.toNat % 4 = 0 := by
  simp only [aligned, getLsbD_zero_eq, getLsbD_one_eq, Bool.and_eq_true, Bool.not_eq_true', decide_eq_false_iff_not]
  omega

theorem and_eq_iff_toNat (a m c : Word) : a &&& m = c ↔ (a &&& m).toNat = c.toNat :=
  ⟨fun h => by rw [h], BitVec.eq_of_toNat_eq⟩

/-- The window mask (R62). -/
theorem windowMask_iff (a : Word) : a &&& 0xFFF00000#32 = 0x40000000#32 ↔ inWindow a = true := by
  rw [and_eq_iff_toNat, toNat_and_high a 20 (by omega) _ (by decide), inWindow_iff]
  simp only [BitVec.toNat_ofNat]
  omega

theorem windowWordMask_iff (a : Word) : a &&& 0xFFF00003#32 = 0x40000000#32 ↔ inWindow a = true ∧ aligned a = true := by
  have := and_or_eq_iff a 0xFFF00000#32 3#32 0x40000000#32 (by decide)
  rw [show (0xFFF00000#32 ||| 3#32) = 0xFFF00003#32 by decide, show 0x40000000#32 &&& 0xFFF00000#32 = 0x40000000#32 by decide,
    show 0x40000000#32 &&& 3#32 = 0#32 by decide] at this
  rw [this, windowMask_iff, and_eq_iff_toNat a, toNat_and_three, aligned_iff]
  rfl

theorem windowHalfMask_iff (a : Word) :
    a &&& 0xFFF00003#32 = 0x40000002#32 ↔ inWindow a = true ∧ a.getLsbD 0 = false ∧ a.getLsbD 1 = true := by
  have := and_or_eq_iff a 0xFFF00000#32 3#32 0x40000002#32 (by decide)
  rw [show (0xFFF00000#32 ||| 3#32) = 0xFFF00003#32 by decide, show 0x40000002#32 &&& 0xFFF00000#32 = 0x40000000#32 by decide,
    show 0x40000002#32 &&& 3#32 = 2#32 by decide] at this
  rw [this, windowMask_iff, and_eq_iff_toNat a, toNat_and_three, getLsbD_zero_eq, getLsbD_one_eq, decide_eq_false_iff_not,
    decide_eq_true_eq]
  refine and_congr_right fun _ => ?_
  simp only [BitVec.toNat_ofNat]
  omega

theorem windowOddMask_iff (a : Word) :
    a &&& 0xFFF00001#32 = 0x40000001#32 ↔ inWindow a = true ∧ a.getLsbD 0 = true := by
  have := and_or_eq_iff a 0xFFF00000#32 1#32 0x40000001#32 (by decide)
  rw [show (0xFFF00000#32 ||| 1#32) = 0xFFF00001#32 by decide, show 0x40000001#32 &&& 0xFFF00000#32 = 0x40000000#32 by decide,
    show 0x40000001#32 &&& 1#32 = 1#32 by decide] at this
  rw [this, windowMask_iff, and_eq_iff_toNat a, toNat_and_one, getLsbD_zero_eq, decide_eq_true_eq]
  rfl

/-- The mask of a region's catch-all row: in the region and word-aligned (R222). -/
theorem regionMask_iff (p : Periph) (a : Word) : a &&& 0xFFFFF003#32 = p.base ↔ p.holds a = true ∧ aligned a = true := by
  have hp : p.base &&& 0xFFFFF000#32 = p.base ∧ p.base &&& 3#32 = 0#32 ∧ p.base &&& (0xFFFFF000#32 ||| 3#32) = p.base := by
    cases p <;> decide
  have := and_or_eq_iff a 0xFFFFF000#32 3#32 p.base hp.2.2
  rw [show (0xFFFFF000#32 ||| 3#32) = 0xFFFFF003#32 by decide, hp.1, hp.2.1] at this
  have h12 : p.base.toNat % 0x1000 = 0 := by cases p <;> rfl
  rw [this, and_eq_iff_toNat, toNat_and_high a 12 (by omega) _ (by decide), and_eq_iff_toNat a 3#32, toNat_and_three, aligned_iff,
    Periph.holds_iff]
  simp only [regionSize, BitVec.toNat_ofNat]
  omega

/-- A masked key is its masked fields. -/
theorem key_and (k s : BitVec 2) (a : Word) (mk ms : BitVec 2) (ma : Word) :
    (k ++ s ++ a) &&& (mk ++ ms ++ ma) = (k &&& mk) ++ (s &&& ms) ++ (a &&& ma) := by
  rw [BitVec.and_append, BitVec.and_append]

/-- What a row selects, field by field: enough that each masked field is the field of the row's pattern. -/
theorem Row.selects_of_fields {r : Row} {t : Transaction} (mk ms : BitVec 2) (ma : Word) (pk ps : BitVec 2) (pa : Word)
    (hm : r.mask = mk ++ ms ++ ma) (hp : r.pattern = pk ++ ps ++ pa) (hk : t.kindCode &&& mk = pk) (hs : t.size &&& ms = ps)
    (ha : t.addr &&& ma = pa) : r.selects t.key = true := by
  simp only [Row.selects, Transaction.key, hm, hp, beq_iff_eq]
  have := key_and t.kindCode t.size t.addr mk ms ma
  rw [hk, hs, ha] at this
  exact this

end Sys2Proof
end

