-- ==== Sys2Proof/Laws/PerInstr.lean ====
section
/-! SUPPORT. Per instruction: the row of spec/opcode_table.json that has the instruction's mnemonic selects the key the
instruction is encoded to (R81, R84, R85). -/

namespace Sys2Proof.Laws.RowMatch

/-- A well-formed instruction that is a transaction has a row of its own mnemonic, and that row selects its key. -/
def Statement (i : Instr) : Prop :=
  i.wf = true → ∀ t, encode i = .bus t → ∃ r ∈ opcodeRows, r.mnemonic = i.mnemonic ∧ r.selects t.key = true

/-- An unknown offset's address is word-aligned (R222). -/
theorem aligned_address {p : Periph} {off : BitVec 12} (h : p.unknown off = true) : aligned (p.address off) = true := by
  simp only [Periph.unknown, Bool.and_eq_true] at h
  simp only [aligned, getLsbD_zero_address, getLsbD_one_address, Bool.and_eq_true]
  exact h.1

/-- A named register's row: its mask is all ones, so it selects its own key. -/
theorem of_row {i : Instr} {a : Word} {acc : DataAccess} (k : BitVec 2) (r : Row) (hr : r ∈ opcodeRows)
    (hm : r.mnemonic = i.mnemonic) (he : encode i = wordAccess acc a) (hk : Transaction.kindCode ⟨.data acc, 2#2, a⟩ = k)
    (hs : r.selects (k ++ 2#2 ++ a) = true) : Statement i := by
  intro _ t ht
  rw [he] at ht
  cases ht
  subst hk
  exact ⟨r, hr, hm, hs⟩

theorem trngRngImrR : Statement (.trngRngImrR) :=
  of_row 0#2 ⟨"TRNG.RNG_IMR.R", 0x2400F0100#36, 0xFFFFFFFFF#36, 0⟩ (by decide) rfl rfl rfl rfl

theorem trngRngImrW (v : Word) : Statement (.trngRngImrW v) :=
  of_row 1#2 ⟨"TRNG.RNG_IMR.W", 0x6400F0100#36, 0xFFFFFFFFF#36, 0⟩ (by decide) rfl rfl rfl rfl

theorem trngRngIsrR : Statement (.trngRngIsrR) :=
  of_row 0#2 ⟨"TRNG.RNG_ISR.R", 0x2400F0104#36, 0xFFFFFFFFF#36, 0⟩ (by decide) rfl rfl rfl rfl

theorem trngRngIsrW (v : Word) : Statement (.trngRngIsrW v) :=
  of_row 1#2 ⟨"TRNG.RNG_ISR.W", 0x6400F0104#36, 0xFFFFFFFFF#36, 0⟩ (by decide) rfl rfl rfl rfl

theorem trngRngIcrR : Statement (.trngRngIcrR) :=
  of_row 0#2 ⟨"TRNG.RNG_ICR.R", 0x2400F0108#36, 0xFFFFFFFFF#36, 0⟩ (by decide) rfl rfl rfl rfl

theorem trngRngIcrW (v : Word) : Statement (.trngRngIcrW v) :=
  of_row 1#2 ⟨"TRNG.RNG_ICR.W", 0x6400F0108#36, 0xFFFFFFFFF#36, 0⟩ (by decide) rfl rfl rfl rfl

theorem trngTrngConfigR : Statement (.trngTrngConfigR) :=
  of_row 0#2 ⟨"TRNG.TRNG_CONFIG.R", 0x2400F010C#36, 0xFFFFFFFFF#36, 0⟩ (by decide) rfl rfl rfl rfl

theorem trngTrngConfigW (v : Word) : Statement (.trngTrngConfigW v) :=
  of_row 1#2 ⟨"TRNG.TRNG_CONFIG.W", 0x6400F010C#36, 0xFFFFFFFFF#36, 0⟩ (by decide) rfl rfl rfl rfl

theorem trngTrngValidR : Statement (.trngTrngValidR) :=
  of_row 0#2 ⟨"TRNG.TRNG_VALID.R", 0x2400F0110#36, 0xFFFFFFFFF#36, 0⟩ (by decide) rfl rfl rfl rfl

theorem trngTrngValidW (v : Word) : Statement (.trngTrngValidW v) :=
  of_row 1#2 ⟨"TRNG.TRNG_VALID.W", 0x6400F0110#36, 0xFFFFFFFFF#36, 0⟩ (by decide) rfl rfl rfl rfl

theorem trngEhrData0R : Statement (.trngEhrData0R) :=
  of_row 0#2 ⟨"TRNG.EHR_DATA0.R", 0x2400F0114#36, 0xFFFFFFFFF#36, 0⟩ (by decide) rfl rfl rfl rfl

theorem trngEhrData0W (v : Word) : Statement (.trngEhrData0W v) :=
  of_row 1#2 ⟨"TRNG.EHR_DATA0.W", 0x6400F0114#36, 0xFFFFFFFFF#36, 0⟩ (by decide) rfl rfl rfl rfl

theorem trngEhrData1R : Statement (.trngEhrData1R) :=
  of_row 0#2 ⟨"TRNG.EHR_DATA1.R", 0x2400F0118#36, 0xFFFFFFFFF#36, 0⟩ (by decide) rfl rfl rfl rfl

theorem trngEhrData1W (v : Word) : Statement (.trngEhrData1W v) :=
  of_row 1#2 ⟨"TRNG.EHR_DATA1.W", 0x6400F0118#36, 0xFFFFFFFFF#36, 0⟩ (by decide) rfl rfl rfl rfl

theorem trngEhrData2R : Statement (.trngEhrData2R) :=
  of_row 0#2 ⟨"TRNG.EHR_DATA2.R", 0x2400F011C#36, 0xFFFFFFFFF#36, 0⟩ (by decide) rfl rfl rfl rfl

theorem trngEhrData2W (v : Word) : Statement (.trngEhrData2W v) :=
  of_row 1#2 ⟨"TRNG.EHR_DATA2.W", 0x6400F011C#36, 0xFFFFFFFFF#36, 0⟩ (by decide) rfl rfl rfl rfl

theorem trngEhrData3R : Statement (.trngEhrData3R) :=
  of_row 0#2 ⟨"TRNG.EHR_DATA3.R", 0x2400F0120#36, 0xFFFFFFFFF#36, 0⟩ (by decide) rfl rfl rfl rfl

theorem trngEhrData3W (v : Word) : Statement (.trngEhrData3W v) :=
  of_row 1#2 ⟨"TRNG.EHR_DATA3.W", 0x6400F0120#36, 0xFFFFFFFFF#36, 0⟩ (by decide) rfl rfl rfl rfl

theorem trngEhrData4R : Statement (.trngEhrData4R) :=
  of_row 0#2 ⟨"TRNG.EHR_DATA4.R", 0x2400F0124#36, 0xFFFFFFFFF#36, 0⟩ (by decide) rfl rfl rfl rfl

theorem trngEhrData4W (v : Word) : Statement (.trngEhrData4W v) :=
  of_row 1#2 ⟨"TRNG.EHR_DATA4.W", 0x6400F0124#36, 0xFFFFFFFFF#36, 0⟩ (by decide) rfl rfl rfl rfl

theorem trngEhrData5R : Statement (.trngEhrData5R) :=
  of_row 0#2 ⟨"TRNG.EHR_DATA5.R", 0x2400F0128#36, 0xFFFFFFFFF#36, 0⟩ (by decide) rfl rfl rfl rfl

theorem trngEhrData5W (v : Word) : Statement (.trngEhrData5W v) :=
  of_row 1#2 ⟨"TRNG.EHR_DATA5.W", 0x6400F0128#36, 0xFFFFFFFFF#36, 0⟩ (by decide) rfl rfl rfl rfl

theorem trngRndSourceEnableR : Statement (.trngRndSourceEnableR) :=
  of_row 0#2 ⟨"TRNG.RND_SOURCE_ENABLE.R", 0x2400F012C#36, 0xFFFFFFFFF#36, 0⟩ (by decide) rfl rfl rfl rfl

theorem trngRndSourceEnableW (v : Word) : Statement (.trngRndSourceEnableW v) :=
  of_row 1#2 ⟨"TRNG.RND_SOURCE_ENABLE.W", 0x6400F012C#36, 0xFFFFFFFFF#36, 0⟩ (by decide) rfl rfl rfl rfl

theorem trngSampleCnt1R : Statement (.trngSampleCnt1R) :=
  of_row 0#2 ⟨"TRNG.SAMPLE_CNT1.R", 0x2400F0130#36, 0xFFFFFFFFF#36, 0⟩ (by decide) rfl rfl rfl rfl

theorem trngSampleCnt1W (v : Word) : Statement (.trngSampleCnt1W v) :=
  of_row 1#2 ⟨"TRNG.SAMPLE_CNT1.W", 0x6400F0130#36, 0xFFFFFFFFF#36, 0⟩ (by decide) rfl rfl rfl rfl

theorem trngTrngDebugControlR : Statement (.trngTrngDebugControlR) :=
  of_row 0#2 ⟨"TRNG.TRNG_DEBUG_CONTROL.R", 0x2400F0138#36, 0xFFFFFFFFF#36, 0⟩ (by decide) rfl rfl rfl rfl

theorem trngTrngDebugControlW (v : Word) : Statement (.trngTrngDebugControlW v) :=
  of_row 1#2 ⟨"TRNG.TRNG_DEBUG_CONTROL.W", 0x6400F0138#36, 0xFFFFFFFFF#36, 0⟩ (by decide) rfl rfl rfl rfl

theorem trngTrngSwResetR : Statement (.trngTrngSwResetR) :=
  of_row 0#2 ⟨"TRNG.TRNG_SW_RESET.R", 0x2400F0140#36, 0xFFFFFFFFF#36, 0⟩ (by decide) rfl rfl rfl rfl

theorem trngTrngSwResetW (v : Word) : Statement (.trngTrngSwResetW v) :=
  of_row 1#2 ⟨"TRNG.TRNG_SW_RESET.W", 0x6400F0140#36, 0xFFFFFFFFF#36, 0⟩ (by decide) rfl rfl rfl rfl

theorem trngTrngBusyR : Statement (.trngTrngBusyR) :=
  of_row 0#2 ⟨"TRNG.TRNG_BUSY.R", 0x2400F01B8#36, 0xFFFFFFFFF#36, 0⟩ (by decide) rfl rfl rfl rfl

theorem trngTrngBusyW (v : Word) : Statement (.trngTrngBusyW v) :=
  of_row 1#2 ⟨"TRNG.TRNG_BUSY.W", 0x6400F01B8#36, 0xFFFFFFFFF#36, 0⟩ (by decide) rfl rfl rfl rfl

theorem sha256CsrR : Statement (.sha256CsrR) :=
  of_row 0#2 ⟨"SHA256.CSR.R", 0x2400F8000#36, 0xFFFFFFFFF#36, 0⟩ (by decide) rfl rfl rfl rfl

theorem sha256CsrW (v : Word) : Statement (.sha256CsrW v) :=
  of_row 1#2 ⟨"SHA256.CSR.W", 0x6400F8000#36, 0xFFFFFFFFF#36, 0⟩ (by decide) rfl rfl rfl rfl

theorem sha256WdataR : Statement (.sha256WdataR) :=
  of_row 0#2 ⟨"SHA256.WDATA.R", 0x2400F8004#36, 0xFFFFFFFFF#36, 0⟩ (by decide) rfl rfl rfl rfl

theorem sha256WdataW (v : Word) : Statement (.sha256WdataW v) :=
  of_row 1#2 ⟨"SHA256.WDATA.W", 0x6400F8004#36, 0xFFFFFFFFF#36, 0⟩ (by decide) rfl rfl rfl rfl

theorem sha256Sum0R : Statement (.sha256Sum0R) :=
  of_row 0#2 ⟨"SHA256.SUM0.R", 0x2400F8008#36, 0xFFFFFFFFF#36, 0⟩ (by decide) rfl rfl rfl rfl

theorem sha256Sum0W (v : Word) : Statement (.sha256Sum0W v) :=
  of_row 1#2 ⟨"SHA256.SUM0.W", 0x6400F8008#36, 0xFFFFFFFFF#36, 0⟩ (by decide) rfl rfl rfl rfl

theorem sha256Sum1R : Statement (.sha256Sum1R) :=
  of_row 0#2 ⟨"SHA256.SUM1.R", 0x2400F800C#36, 0xFFFFFFFFF#36, 0⟩ (by decide) rfl rfl rfl rfl

theorem sha256Sum1W (v : Word) : Statement (.sha256Sum1W v) :=
  of_row 1#2 ⟨"SHA256.SUM1.W", 0x6400F800C#36, 0xFFFFFFFFF#36, 0⟩ (by decide) rfl rfl rfl rfl

theorem sha256Sum2R : Statement (.sha256Sum2R) :=
  of_row 0#2 ⟨"SHA256.SUM2.R", 0x2400F8010#36, 0xFFFFFFFFF#36, 0⟩ (by decide) rfl rfl rfl rfl

theorem sha256Sum2W (v : Word) : Statement (.sha256Sum2W v) :=
  of_row 1#2 ⟨"SHA256.SUM2.W", 0x6400F8010#36, 0xFFFFFFFFF#36, 0⟩ (by decide) rfl rfl rfl rfl

theorem sha256Sum3R : Statement (.sha256Sum3R) :=
  of_row 0#2 ⟨"SHA256.SUM3.R", 0x2400F8014#36, 0xFFFFFFFFF#36, 0⟩ (by decide) rfl rfl rfl rfl

theorem sha256Sum3W (v : Word) : Statement (.sha256Sum3W v) :=
  of_row 1#2 ⟨"SHA256.SUM3.W", 0x6400F8014#36, 0xFFFFFFFFF#36, 0⟩ (by decide) rfl rfl rfl rfl

theorem sha256Sum4R : Statement (.sha256Sum4R) :=
  of_row 0#2 ⟨"SHA256.SUM4.R", 0x2400F8018#36, 0xFFFFFFFFF#36, 0⟩ (by decide) rfl rfl rfl rfl

theorem sha256Sum4W (v : Word) : Statement (.sha256Sum4W v) :=
  of_row 1#2 ⟨"SHA256.SUM4.W", 0x6400F8018#36, 0xFFFFFFFFF#36, 0⟩ (by decide) rfl rfl rfl rfl

theorem sha256Sum5R : Statement (.sha256Sum5R) :=
  of_row 0#2 ⟨"SHA256.SUM5.R", 0x2400F801C#36, 0xFFFFFFFFF#36, 0⟩ (by decide) rfl rfl rfl rfl

theorem sha256Sum5W (v : Word) : Statement (.sha256Sum5W v) :=
  of_row 1#2 ⟨"SHA256.SUM5.W", 0x6400F801C#36, 0xFFFFFFFFF#36, 0⟩ (by decide) rfl rfl rfl rfl

theorem sha256Sum6R : Statement (.sha256Sum6R) :=
  of_row 0#2 ⟨"SHA256.SUM6.R", 0x2400F8020#36, 0xFFFFFFFFF#36, 0⟩ (by decide) rfl rfl rfl rfl

theorem sha256Sum6W (v : Word) : Statement (.sha256Sum6W v) :=
  of_row 1#2 ⟨"SHA256.SUM6.W", 0x6400F8020#36, 0xFFFFFFFFF#36, 0⟩ (by decide) rfl rfl rfl rfl

theorem sha256Sum7R : Statement (.sha256Sum7R) :=
  of_row 0#2 ⟨"SHA256.SUM7.R", 0x2400F8024#36, 0xFFFFFFFFF#36, 0⟩ (by decide) rfl rfl rfl rfl

theorem sha256Sum7W (v : Word) : Statement (.sha256Sum7W v) :=
  of_row 1#2 ⟨"SHA256.SUM7.W", 0x6400F8024#36, 0xFFFFFFFFF#36, 0⟩ (by decide) rfl rfl rfl rfl

theorem roscCtrlR : Statement (.roscCtrlR) :=
  of_row 0#2 ⟨"ROSC.CTRL.R", 0x2400E8000#36, 0xFFFFFFFFF#36, 0⟩ (by decide) rfl rfl rfl rfl

theorem roscCtrlW (v : Word) : Statement (.roscCtrlW v) :=
  of_row 1#2 ⟨"ROSC.CTRL.W", 0x6400E8000#36, 0xFFFFFFFFF#36, 0⟩ (by decide) rfl rfl rfl rfl

theorem roscFreqaR : Statement (.roscFreqaR) :=
  of_row 0#2 ⟨"ROSC.FREQA.R", 0x2400E8004#36, 0xFFFFFFFFF#36, 0⟩ (by decide) rfl rfl rfl rfl

theorem roscFreqaW (v : Word) : Statement (.roscFreqaW v) :=
  of_row 1#2 ⟨"ROSC.FREQA.W", 0x6400E8004#36, 0xFFFFFFFFF#36, 0⟩ (by decide) rfl rfl rfl rfl

theorem roscFreqbR : Statement (.roscFreqbR) :=
  of_row 0#2 ⟨"ROSC.FREQB.R", 0x2400E8008#36, 0xFFFFFFFFF#36, 0⟩ (by decide) rfl rfl rfl rfl

theorem roscFreqbW (v : Word) : Statement (.roscFreqbW v) :=
  of_row 1#2 ⟨"ROSC.FREQB.W", 0x6400E8008#36, 0xFFFFFFFFF#36, 0⟩ (by decide) rfl rfl rfl rfl

theorem roscDormantR : Statement (.roscDormantR) :=
  of_row 0#2 ⟨"ROSC.DORMANT.R", 0x2400E8010#36, 0xFFFFFFFFF#36, 0⟩ (by decide) rfl rfl rfl rfl

theorem roscDormantW (v : Word) : Statement (.roscDormantW v) :=
  of_row 1#2 ⟨"ROSC.DORMANT.W", 0x6400E8010#36, 0xFFFFFFFFF#36, 0⟩ (by decide) rfl rfl rfl rfl

theorem roscDivR : Statement (.roscDivR) :=
  of_row 0#2 ⟨"ROSC.DIV.R", 0x2400E8014#36, 0xFFFFFFFFF#36, 0⟩ (by decide) rfl rfl rfl rfl

theorem roscDivW (v : Word) : Statement (.roscDivW v) :=
  of_row 1#2 ⟨"ROSC.DIV.W", 0x6400E8014#36, 0xFFFFFFFFF#36, 0⟩ (by decide) rfl rfl rfl rfl

theorem roscPhaseR : Statement (.roscPhaseR) :=
  of_row 0#2 ⟨"ROSC.PHASE.R", 0x2400E8018#36, 0xFFFFFFFFF#36, 0⟩ (by decide) rfl rfl rfl rfl

theorem roscPhaseW (v : Word) : Statement (.roscPhaseW v) :=
  of_row 1#2 ⟨"ROSC.PHASE.W", 0x6400E8018#36, 0xFFFFFFFFF#36, 0⟩ (by decide) rfl rfl rfl rfl

theorem roscStatusR : Statement (.roscStatusR) :=
  of_row 0#2 ⟨"ROSC.STATUS.R", 0x2400E801C#36, 0xFFFFFFFFF#36, 0⟩ (by decide) rfl rfl rfl rfl

theorem roscStatusW (v : Word) : Statement (.roscStatusW v) :=
  of_row 1#2 ⟨"ROSC.STATUS.W", 0x6400E801C#36, 0xFFFFFFFFF#36, 0⟩ (by decide) rfl rfl rfl rfl

theorem roscRandombitR : Statement (.roscRandombitR) :=
  of_row 0#2 ⟨"ROSC.RANDOMBIT.R", 0x2400E8020#36, 0xFFFFFFFFF#36, 0⟩ (by decide) rfl rfl rfl rfl

theorem roscRandombitW (v : Word) : Statement (.roscRandombitW v) :=
  of_row 1#2 ⟨"ROSC.RANDOMBIT.W", 0x6400E8020#36, 0xFFFFFFFFF#36, 0⟩ (by decide) rfl rfl rfl rfl

theorem resetsResetR : Statement (.resetsResetR) :=
  of_row 0#2 ⟨"RESETS.RESET.R", 0x240020000#36, 0xFFFFFFFFF#36, 0⟩ (by decide) rfl rfl rfl rfl

theorem resetsResetW (v : Word) : Statement (.resetsResetW v) :=
  of_row 1#2 ⟨"RESETS.RESET.W", 0x640020000#36, 0xFFFFFFFFF#36, 0⟩ (by decide) rfl rfl rfl rfl

theorem resetsUnknownR (off : BitVec 12) : Statement (.resetsUnknownR off) := by
  intro hw t ht; cases ht
  have h : Periph.resets.unknown off = true := hw
  refine ⟨⟨"RESETS.UNKNOWN.R", 0x240020000#36, 0xFFFFFF003#36, 1⟩, by decide, rfl,
    Row.selects_of_fields 3#2 3#2 0xFFFFF003#32 0#2 2#2 0x40020000#32 rfl rfl
      (by simp [Transaction.kindCode]) (by simp) ?_⟩
  exact (regionMask_iff .resets _).mpr ⟨Periph.holds_address _ _, aligned_address h⟩

theorem resetsUnknownW (off : BitVec 12) (v : Word) : Statement (.resetsUnknownW off v) := by
  intro hw t ht; cases ht
  have h : Periph.resets.unknown off = true := hw
  refine ⟨⟨"RESETS.UNKNOWN.W", 0x640020000#36, 0xFFFFFF003#36, 1⟩, by decide, rfl,
    Row.selects_of_fields 3#2 3#2 0xFFFFF003#32 1#2 2#2 0x40020000#32 rfl rfl
      (by simp [Transaction.kindCode]) (by simp) ?_⟩
  exact (regionMask_iff .resets _).mpr ⟨Periph.holds_address _ _, aligned_address h⟩

theorem roscUnknownR (off : BitVec 12) : Statement (.roscUnknownR off) := by
  intro hw t ht; cases ht
  have h : Periph.rosc.unknown off = true := hw
  refine ⟨⟨"ROSC.UNKNOWN.R", 0x2400E8000#36, 0xFFFFFF003#36, 1⟩, by decide, rfl,
    Row.selects_of_fields 3#2 3#2 0xFFFFF003#32 0#2 2#2 0x400E8000#32 rfl rfl
      (by simp [Transaction.kindCode]) (by simp) ?_⟩
  exact (regionMask_iff .rosc _).mpr ⟨Periph.holds_address _ _, aligned_address h⟩

theorem roscUnknownW (off : BitVec 12) (v : Word) : Statement (.roscUnknownW off v) := by
  intro hw t ht; cases ht
  have h : Periph.rosc.unknown off = true := hw
  refine ⟨⟨"ROSC.UNKNOWN.W", 0x6400E8000#36, 0xFFFFFF003#36, 1⟩, by decide, rfl,
    Row.selects_of_fields 3#2 3#2 0xFFFFF003#32 1#2 2#2 0x400E8000#32 rfl rfl
      (by simp [Transaction.kindCode]) (by simp) ?_⟩
  exact (regionMask_iff .rosc _).mpr ⟨Periph.holds_address _ _, aligned_address h⟩

theorem trngUnknownR (off : BitVec 12) : Statement (.trngUnknownR off) := by
  intro hw t ht; cases ht
  have h : Periph.trng.unknown off = true := hw
  refine ⟨⟨"TRNG.UNKNOWN.R", 0x2400F0000#36, 0xFFFFFF003#36, 1⟩, by decide, rfl,
    Row.selects_of_fields 3#2 3#2 0xFFFFF003#32 0#2 2#2 0x400F0000#32 rfl rfl
      (by simp [Transaction.kindCode]) (by simp) ?_⟩
  exact (regionMask_iff .trng _).mpr ⟨Periph.holds_address _ _, aligned_address h⟩

theorem trngUnknownW (off : BitVec 12) (v : Word) : Statement (.trngUnknownW off v) := by
  intro hw t ht; cases ht
  have h : Periph.trng.unknown off = true := hw
  refine ⟨⟨"TRNG.UNKNOWN.W", 0x6400F0000#36, 0xFFFFFF003#36, 1⟩, by decide, rfl,
    Row.selects_of_fields 3#2 3#2 0xFFFFF003#32 1#2 2#2 0x400F0000#32 rfl rfl
      (by simp [Transaction.kindCode]) (by simp) ?_⟩
  exact (regionMask_iff .trng _).mpr ⟨Periph.holds_address _ _, aligned_address h⟩

theorem sha256UnknownR (off : BitVec 12) : Statement (.sha256UnknownR off) := by
  intro hw t ht; cases ht
  have h : Periph.sha.unknown off = true := hw
  refine ⟨⟨"SHA256.UNKNOWN.R", 0x2400F8000#36, 0xFFFFFF003#36, 1⟩, by decide, rfl,
    Row.selects_of_fields 3#2 3#2 0xFFFFF003#32 0#2 2#2 0x400F8000#32 rfl rfl
      (by simp [Transaction.kindCode]) (by simp) ?_⟩
  exact (regionMask_iff .sha _).mpr ⟨Periph.holds_address _ _, aligned_address h⟩

theorem sha256UnknownW (off : BitVec 12) (v : Word) : Statement (.sha256UnknownW off v) := by
  intro hw t ht; cases ht
  have h : Periph.sha.unknown off = true := hw
  refine ⟨⟨"SHA256.UNKNOWN.W", 0x6400F8000#36, 0xFFFFFF003#36, 1⟩, by decide, rfl,
    Row.selects_of_fields 3#2 3#2 0xFFFFF003#32 1#2 2#2 0x400F8000#32 rfl rfl
      (by simp [Transaction.kindCode]) (by simp) ?_⟩
  exact (regionMask_iff .sha _).mpr ⟨Periph.holds_address _ _, aligned_address h⟩

theorem windowUnmappedR (a : Word) : Statement (.windowUnmappedR a) := by
  intro hw t ht; cases ht
  have h : (inWindow a && aligned a && (regionOf a).isNone) = true := hw
  simp only [Bool.and_eq_true] at h
  refine ⟨⟨"WINDOW.UNMAPPED.R", 0x240000000#36, 0xFFFF00003#36, 2⟩, by decide, rfl,
    Row.selects_of_fields 3#2 3#2 0xFFF00003#32 0#2 2#2 0x40000000#32 rfl rfl
      (by simp [Transaction.kindCode]) (by simp) ?_⟩
  exact (windowWordMask_iff a).mpr h.1

theorem windowUnmappedW (a : Word) (v : Word) : Statement (.windowUnmappedW a v) := by
  intro hw t ht; cases ht
  have h : (inWindow a && aligned a && (regionOf a).isNone) = true := hw
  simp only [Bool.and_eq_true] at h
  refine ⟨⟨"WINDOW.UNMAPPED.W", 0x640000000#36, 0xFFFF00003#36, 2⟩, by decide, rfl,
    Row.selects_of_fields 3#2 3#2 0xFFF00003#32 1#2 2#2 0x40000000#32 rfl rfl
      (by simp [Transaction.kindCode]) (by simp) ?_⟩
  exact (windowWordMask_iff a).mpr h.1

theorem refuseFetch (size : BitVec 2) (a : Word) : Statement (.refuseFetch size a) := by
  intro hw t ht; cases ht
  refine ⟨⟨"REFUSE.FETCH", 0x840000000#36, 0xCFFF00000#36, 0⟩, by decide, rfl,
    Row.selects_of_fields 3#2 0#2 0xFFF00000#32 2#2 0#2 0x40000000#32 rfl rfl
      (by simp [Transaction.kindCode]) (by simp) ?_⟩
  exact (windowMask_iff a).mpr hw

theorem refuseReservedKind (size : BitVec 2) (a : Word) : Statement (.refuseReservedKind size a) := by
  intro hw t ht; cases ht
  refine ⟨⟨"REFUSE.RESERVED_KIND", 0xC40000000#36, 0xCFFF00000#36, 0⟩, by decide, rfl,
    Row.selects_of_fields 3#2 0#2 0xFFF00000#32 3#2 0#2 0x40000000#32 rfl rfl
      (by simp [Transaction.kindCode]) (by simp) ?_⟩
  exact (windowMask_iff a).mpr hw

theorem refuseReservedSize (acc : DataAccess) (a : Word) : Statement (.refuseReservedSize acc a) := by
  intro hw t ht; cases ht
  refine ⟨⟨"REFUSE.RESERVED_SIZE", 0x340000000#36, 0xBFFF00000#36, 0⟩, by decide, rfl,
    Row.selects_of_fields 2#2 3#2 0xFFF00000#32 0#2 3#2 0x40000000#32 rfl rfl
      (by cases acc <;> simp [Transaction.kindCode]) (by simp) ?_⟩
  exact (windowMask_iff a).mpr hw

theorem refuseSubword (acc : DataAccess) (half : Bool) (a : Word) : Statement (.refuseSubword acc half a) := by
  intro hw t ht; cases ht
  refine ⟨⟨"REFUSE.SUBWORD", 0x040000000#36, 0xAFFF00000#36, 0⟩, by decide, rfl,
    Row.selects_of_fields 2#2 2#2 0xFFF00000#32 0#2 0#2 0x40000000#32 rfl rfl
      (by cases acc <;> simp [Transaction.kindCode]) (by cases half <;> simp) ?_⟩
  exact (windowMask_iff a).mpr hw

theorem refuseMisalignedOdd (acc : DataAccess) (a : Word) : Statement (.refuseMisalignedOdd acc a) := by
  intro hw t ht; cases ht
  have h : (inWindow a && a.getLsbD 0) = true := hw
  rw [Bool.and_eq_true] at h
  refine ⟨⟨"REFUSE.MISALIGNED_ODD", 0x240000001#36, 0xBFFF00001#36, 0⟩, by decide, rfl,
    Row.selects_of_fields 2#2 3#2 0xFFF00001#32 0#2 2#2 0x40000001#32 rfl rfl
      (by cases acc <;> simp [Transaction.kindCode]) (by simp) ?_⟩
  exact (windowOddMask_iff a).mpr h

theorem refuseMisalignedHalf (acc : DataAccess) (a : Word) : Statement (.refuseMisalignedHalf acc a) := by
  intro hw t ht; cases ht
  have h : (inWindow a && !a.getLsbD 0 && a.getLsbD 1) = true := hw
  rw [Bool.and_eq_true, Bool.and_eq_true, Bool.not_eq_true'] at h
  refine ⟨⟨"REFUSE.MISALIGNED_HALF", 0x240000002#36, 0xBFFF00003#36, 0⟩, by decide, rfl,
    Row.selects_of_fields 2#2 3#2 0xFFF00003#32 0#2 2#2 0x40000002#32 rfl rfl
      (by cases acc <;> simp [Transaction.kindCode]) (by simp) ?_⟩
  exact (windowHalfMask_iff a).mpr ⟨h.1.1, h.1.2, h.2⟩

theorem outsideWindow (t : Transaction) : Statement (.outsideWindow t) := by
  intro _ u hu; cases hu
  refine ⟨⟨"OUTSIDE_WINDOW", 0x000000000#36, 0x000000000#36, 3⟩, by decide, rfl,
    Row.selects_of_fields 0#2 0#2 0x00000000#32 0#2 0#2 0x00000000#32 rfl rfl BitVec.and_zero BitVec.and_zero BitVec.and_zero⟩

theorem shareSplitKey (key : List Byte) : Statement (.shareSplitKey key) := by
  intro _ t ht; cases ht

theorem shareSplitIV (iv : List Byte) : Statement (.shareSplitIV iv) := by
  intro _ t ht; cases ht

theorem shareJoinKey (shares : List Byte) : Statement (.shareJoinKey shares) := by
  intro _ t ht; cases ht

end Sys2Proof.Laws.RowMatch
end

