-- ==== Sys2Proof/Tests/Slice0.lean ====
section
/-! SUPPORT. Tests of the model against spec/95_test_vectors.md and the register tables of spec/10_state.md, decode tests by words
written out from spec/opcode_table.json, the smoke test of well-formedness, and a witness for the hypotheses of every statement. -/

namespace Sys2Proof.Machine

/-- The block the vectors of spec/95_test_vectors.md section 2 start from: ROSC all zero, mask 1, no region of the harness. -/
def blank : State :=
  State.construct { ctrl := 0#32, freqa := 0#32, freqb := 0#32, dormant := 0#32, div := 0#32, phase := 0#32, status := 0#32 }
    0x00000001#32 [] 0x10000000#32

/-- The same block beside 256 bytes the harness maps at 0x20000000. -/
def beside : State := { blank with regions := [⟨0x20000000#32, 0x100⟩] }

/-- The block with another SHA-256 record. -/
def withQueue (bswap : Bool) (queue : List Word) : State :=
  blank.setSha { Sha.initial with bswap := bswap, queue := queue, sumVld := queue.isEmpty }

/-- What an outcome answers. -/
def answered (o : Host.Outcome State Fault Refusal) : Option Response :=
  match o with
  | .next t => some t.response
  | .fault _ => none
  | .refused _ => none

/-- A field of the block an outcome leaves. -/
def left {α : Type} (f : Block → α) (o : Host.Outcome State Fault Refusal) : Option α :=
  match o with
  | .next t => some (f t.block)
  | .fault _ => none
  | .refused _ => none

/-- The draws an outcome has consumed. -/
def drawsLeft (o : Host.Outcome State Fault Refusal) : Option Nat :=
  match o with
  | .next t => some t.draws
  | .fault _ => none
  | .refused _ => none

/-- The outcome is a next state. -/
def completes (o : Host.Outcome State Fault Refusal) : Bool :=
  match o with
  | .next _ => true
  | .fault _ => false
  | .refused _ => false

/-- One step from a state in which a word of the table is presented. -/
def stepWord (s : State) (nbits w : Nat) : Host.Outcome State Fault Refusal := step (s.withFetchWord nbits w)

/-! ## Well-formedness: every check refuses an ill-formed term -/

theorem test_wf_known_offset_is_no_unknown_one :
    (Instr.resetsUnknownR 0x000#12).wf = false ∧ (Instr.resetsUnknownW 0x000#12 1#32).wf = false ∧
    (Instr.roscUnknownR 0x020#12).wf = false ∧ (Instr.roscUnknownW 0x020#12 1#32).wf = false ∧
    (Instr.trngUnknownR 0x1B8#12).wf = false ∧ (Instr.trngUnknownW 0x1B8#12 1#32).wf = false ∧
    (Instr.sha256UnknownR 0x024#12).wf = false ∧ (Instr.sha256UnknownW 0x024#12 1#32).wf = false := by decide

theorem test_wf_unaligned_offset_is_no_unknown_one :
    (Instr.resetsUnknownR 0x005#12).wf = false ∧ (Instr.resetsUnknownW 0x006#12 1#32).wf = false ∧
    (Instr.roscUnknownR 0x00E#12).wf = false ∧ (Instr.roscUnknownW 0x00D#12 1#32).wf = false ∧
    (Instr.trngUnknownR 0x135#12).wf = false ∧ (Instr.trngUnknownW 0x136#12 1#32).wf = false ∧
    (Instr.sha256UnknownR 0x02A#12).wf = false ∧ (Instr.sha256UnknownW 0x029#12 1#32).wf = false := by decide

theorem test_wf_unmapped_is_in_the_window_and_in_no_region :
    (Instr.windowUnmappedR 0x400F0000#32).wf = false ∧ (Instr.windowUnmappedW 0x400F8FFC#32 1#32).wf = false ∧
    (Instr.windowUnmappedR 0x3FFFFFFC#32).wf = false ∧ (Instr.windowUnmappedW 0x40100000#32 1#32).wf = false ∧
    (Instr.windowUnmappedR 0x40030001#32).wf = false ∧ (Instr.windowUnmappedW 0x40030002#32 1#32).wf = false := by decide

theorem test_wf_refused_is_in_the_window :
    (Instr.refuseFetch 2#2 0x40100000#32).wf = false ∧ (Instr.refuseReservedKind 2#2 0x3FFFFFFF#32).wf = false ∧
    (Instr.refuseReservedSize .read 0x50000000#32).wf = false ∧ (Instr.refuseSubword .read true 0x20000000#32).wf = false ∧
    (Instr.refuseMisalignedOdd .read 0x40100001#32).wf = false ∧
    (Instr.refuseMisalignedHalf .read 0x3FFFFFFE#32).wf = false := by decide

theorem test_wf_misaligned_rows_are_told_apart :
    (Instr.refuseMisalignedOdd .read 0x400F8002#32).wf = false ∧ (Instr.refuseMisalignedHalf .read 0x400F8003#32).wf = false ∧
    (Instr.refuseMisalignedOdd .read 0x400F8000#32).wf = false ∧ (Instr.refuseMisalignedHalf .read 0x400F8000#32).wf = false := by
  decide

theorem test_wf_outside_is_outside_the_window :
    (Instr.outsideWindow ⟨.data .read, 2#2, 0x40000000#32⟩).wf = false ∧
    (Instr.outsideWindow ⟨.fetch, 0#2, 0x400FFFFF#32⟩).wf = false := by decide

/-! ## Decoding: words written out from spec/opcode_table.json, a write's value above its key -/

theorem test_decode_trng_reads :
    [0x2400F0100, 0x2400F0104, 0x2400F0108, 0x2400F010C, 0x2400F0110, 0x2400F0114, 0x2400F0118, 0x2400F011C, 0x2400F0120,
     0x2400F0124, 0x2400F0128, 0x2400F012C, 0x2400F0130, 0x2400F0138, 0x2400F0140, 0x2400F01B8].map (decodeTableWord 40) =
    [some .trngRngImrR, some .trngRngIsrR, some .trngRngIcrR, some .trngTrngConfigR, some .trngTrngValidR,
     some .trngEhrData0R, some .trngEhrData1R, some .trngEhrData2R, some .trngEhrData3R, some .trngEhrData4R,
     some .trngEhrData5R, some .trngRndSourceEnableR, some .trngSampleCnt1R, some .trngTrngDebugControlR,
     some .trngTrngSwResetR, some .trngTrngBusyR] := by decide

theorem test_decode_trng_writes :
    [0x5A0F00C306400F0100, 0x5A0F00C306400F0104, 0x5A0F00C306400F0108, 0x5A0F00C306400F010C, 0x5A0F00C306400F0110,
     0x5A0F00C306400F0114, 0x5A0F00C306400F0118, 0x5A0F00C306400F011C, 0x5A0F00C306400F0120, 0x5A0F00C306400F0124,
     0x5A0F00C306400F0128, 0x5A0F00C306400F012C, 0x5A0F00C306400F0130, 0x5A0F00C306400F0138, 0x5A0F00C306400F0140,
     0x5A0F00C306400F01B8].map (decodeTableWord 72) =
    [.trngRngImrW, .trngRngIsrW, .trngRngIcrW, .trngTrngConfigW, .trngTrngValidW, .trngEhrData0W, .trngEhrData1W,
     .trngEhrData2W, .trngEhrData3W, .trngEhrData4W, .trngEhrData5W, .trngRndSourceEnableW, .trngSampleCnt1W,
     .trngTrngDebugControlW, .trngTrngSwResetW, .trngTrngBusyW].map
      fun i : Word → Instr => some (i 0x5A0F00C3#32) := by decide

theorem test_decode_sha_reads :
    [0x2400F8000, 0x2400F8004, 0x2400F8008, 0x2400F800C, 0x2400F8010, 0x2400F8014, 0x2400F8018, 0x2400F801C, 0x2400F8020,
     0x2400F8024].map (decodeTableWord 40) =
    [some .sha256CsrR, some .sha256WdataR, some .sha256Sum0R, some .sha256Sum1R, some .sha256Sum2R, some .sha256Sum3R,
     some .sha256Sum4R, some .sha256Sum5R, some .sha256Sum6R, some .sha256Sum7R] := by decide

theorem test_decode_sha_writes :
    [0x5A0F00C306400F8000, 0x5A0F00C306400F8004, 0x5A0F00C306400F8008, 0x5A0F00C306400F800C, 0x5A0F00C306400F8010,
     0x5A0F00C306400F8014, 0x5A0F00C306400F8018, 0x5A0F00C306400F801C, 0x5A0F00C306400F8020, 0x5A0F00C306400F8024].map (decodeTableWord 72) =
    [.sha256CsrW, .sha256WdataW, .sha256Sum0W, .sha256Sum1W, .sha256Sum2W, .sha256Sum3W, .sha256Sum4W, .sha256Sum5W,
     .sha256Sum6W, .sha256Sum7W].map
      fun i : Word → Instr => some (i 0x5A0F00C3#32) := by decide

theorem test_decode_rosc_reads :
    [0x2400E8000, 0x2400E8004, 0x2400E8008, 0x2400E8010, 0x2400E8014, 0x2400E8018, 0x2400E801C, 0x2400E8020].map (decodeTableWord 40) =
    [some .roscCtrlR, some .roscFreqaR, some .roscFreqbR, some .roscDormantR, some .roscDivR, some .roscPhaseR,
     some .roscStatusR, some .roscRandombitR] := by decide

theorem test_decode_rosc_writes :
    [0x5A0F00C306400E8000, 0x5A0F00C306400E8004, 0x5A0F00C306400E8008, 0x5A0F00C306400E8010, 0x5A0F00C306400E8014,
     0x5A0F00C306400E8018, 0x5A0F00C306400E801C, 0x5A0F00C306400E8020].map (decodeTableWord 72) =
    [.roscCtrlW, .roscFreqaW, .roscFreqbW, .roscDormantW, .roscDivW, .roscPhaseW, .roscStatusW, .roscRandombitW].map
      fun i : Word → Instr => some (i 0x5A0F00C3#32) := by decide

theorem test_decode_resets_reads :
    [0x240020000].map (decodeTableWord 40) =
    [some .resetsResetR] := by decide

theorem test_decode_resets_writes :
    [0x5A0F00C30640020000].map (decodeTableWord 72) =
    [.resetsResetW].map
      fun i : Word → Instr => some (i 0x5A0F00C3#32) := by decide

theorem test_decode_unknown_offsets :
    decodeTableWord 40 0x240020008 = some (.resetsUnknownR 0x008#12) ∧
    decodeTableWord 72 0x00000001_0640020FFC = some (.resetsUnknownW 0xFFC#12 1#32) ∧
    decodeTableWord 40 0x2400E800C = some (.roscUnknownR 0x00C#12) ∧
    decodeTableWord 72 0x00000005_06400E8024 = some (.roscUnknownW 0x024#12 5#32) ∧
    decodeTableWord 40 0x2400F0000 = some (.trngUnknownR 0x000#12) ∧
    decodeTableWord 72 0xDEADBEEF_06400F0134 = some (.trngUnknownW 0x134#12 0xDEADBEEF#32) ∧
    decodeTableWord 40 0x2400F8028 = some (.sha256UnknownR 0x028#12) ∧
    decodeTableWord 72 0x00000001_06400F8FFC = some (.sha256UnknownW 0xFFC#12 1#32) := by decide

theorem test_decode_window_and_outside :
    decodeTableWord 40 0x240000000 = some (.windowUnmappedR 0x40000000#32) ∧
    decodeTableWord 72 0x00000001_0640022000 = some (.windowUnmappedW 0x40022000#32 1#32) ∧
    decodeTableWord 40 0x2400FFFFC = some (.windowUnmappedR 0x400FFFFC#32) ∧
    decodeTableWord 40 0x23FFFFFFC = some (.outsideWindow ⟨.data .read, 2#2, 0x3FFFFFFC#32⟩) ∧
    decodeTableWord 40 0xA40100000 = some (.outsideWindow ⟨.fetch, 2#2, 0x40100000#32⟩) ∧
    decodeTableWord 40 0xF50000001 = some (.outsideWindow ⟨.reserved, 3#2, 0x50000001#32⟩) := by decide

theorem test_decode_refusals :
    decodeTableWord 40 0x840000000 = some (.refuseFetch 0#2 0x40000000#32) ∧
    decodeTableWord 40 0xE400F8000 = some (.refuseReservedKind 2#2 0x400F8000#32) ∧
    decodeTableWord 40 0x3400F8000 = some (.refuseReservedSize .read 0x400F8000#32) ∧
    decodeTableWord 72 0x00000007_0440020000 = some (.refuseSubword (.write 7#32) false 0x40020000#32) ∧
    decodeTableWord 40 0x1400F8001 = some (.refuseSubword .read true 0x400F8001#32) ∧
    decodeTableWord 40 0x2400F8003 = some (.refuseMisalignedOdd .read 0x400F8003#32) ∧
    decodeTableWord 40 0x2400F8002 = some (.refuseMisalignedHalf .read 0x400F8002#32) := by decide

theorem test_decode_rejects_what_is_no_transaction :
    decodeTableWord 40 0x12400F0100 = none ∧ decodeBytes [0x00#8, 0x01#8, 0x0F#8] = .error .truncated ∧
    decodeBytes [0x00#8, 0x01#8, 0x0F#8, 0x40#8, 0x06#8, 0x11#8] = .error .truncated := by decide

theorem test_decode_host_calls :
    decodeOperation (.host (.splitKey [1#8])) = .shareSplitKey [1#8] ∧
    decodeOperation (.host (.splitIV [2#8])) = .shareSplitIV [2#8] ∧
    decodeOperation (.host (.joinKey [3#8])) = .shareJoinKey [3#8] := by decide

/-! ## TRNG: vectors T1 to T16 and E4, each one step from its word -/

theorem test_trng_storage_reads_after_reset :
    answered (stepWord blank 40 0x2400F0100) = some (.value 0x0000000F#32) ∧
    answered (stepWord blank 40 0x2400F010C) = some (.value 0x00000000#32) ∧
    answered (stepWord blank 40 0x2400F012C) = some (.value 0x00000000#32) ∧
    answered (stepWord blank 40 0x2400F0130) = some (.value 0x0000FFFF#32) ∧
    answered (stepWord blank 40 0x2400F0138) = some (.value 0x00000000#32) := ⟨rfl, rfl, rfl, rfl, rfl⟩

theorem test_trng_status_reads :
    answered (stepWord blank 40 0x2400F0104) = some (.value 0x00000001#32) ∧
    answered (stepWord blank 40 0x2400F0108) = some (.value 0x00000000#32) ∧
    answered (stepWord blank 40 0x2400F0110) = some (.value 0x00000001#32) ∧
    answered (stepWord blank 40 0x2400F0140) = some (.value 0x00000000#32) ∧
    answered (stepWord blank 40 0x2400F01B8) = some (.value 0x00000000#32) := ⟨rfl, rfl, rfl, rfl, rfl⟩

theorem test_trng_ehr_data_is_the_pool :
    answered (stepWord blank 40 0x2400F0114) = some (.value (Config.draw 1)) ∧
    answered (stepWord blank 40 0x2400F0118) = some (.value (Config.draw 2)) ∧
    answered (stepWord blank 40 0x2400F011C) = some (.value (Config.draw 3)) ∧
    answered (stepWord blank 40 0x2400F0120) = some (.value (Config.draw 4)) ∧
    answered (stepWord blank 40 0x2400F0124) = some (.value (Config.draw 5)) ∧
    answered (stepWord blank 40 0x2400F0128) = some (.value (Config.draw 6)) := ⟨rfl, rfl, rfl, rfl, rfl, rfl⟩

theorem test_trng_storage_writes :
    left (·.trng.imr) (stepWord blank 72 0xFFFFFFFF_06400F0100) = some 0xFFFFFFFF#32 ∧
    left (·.trng.config) (stepWord blank 72 0x00000003_06400F010C) = some 0x00000003#32 ∧
    left (·.trng.sampleCnt1) (stepWord blank 72 0x00001234_06400F0130) = some 0x00001234#32 ∧
    left (·.trng.debugControl) (stepWord blank 72 0x0000000E_06400F0138) = some 0x0000000E#32 ∧
    left (·.trng.srcEnable) (stepWord blank 72 0x00000002_06400F012C) = some 0x00000002#32 := ⟨rfl, rfl, rfl, rfl, rfl⟩

theorem test_trng_clear_refreshes :
    left (·.trng.pool) (stepWord blank 72 0x00000001_06400F0108) = some #v[Config.draw 7, Config.draw 8, Config.draw 9,
      Config.draw 10, Config.draw 11, Config.draw 12] ∧ drawsLeft (stepWord blank 72 0x00000001_06400F0108) = some 12 := ⟨rfl, rfl⟩

theorem test_trng_clear_without_bit_zero_does_not :
    left (·.trng) (stepWord blank 72 0xFFFFFFFE_06400F0108) = some blank.block.trng ∧
    drawsLeft (stepWord blank 72 0xFFFFFFFE_06400F0108) = some 6 := ⟨rfl, rfl⟩

theorem test_trng_enable_refreshes_each_time :
    left (fun b => (b.trng.srcEnable, b.trng.pool[0])) (stepWord { blank.refresh with response := .done } 72 0x00000001_06400F012C) =
      some (0x00000001#32, Config.draw 13) ∧
    left (fun b => (b.trng.srcEnable, b.trng.pool[0])) (stepWord blank 72 0x00000002_06400F012C) =
      some (0x00000002#32, Config.draw 1) := ⟨rfl, rfl⟩

theorem test_trng_software_reset :
    left (fun b => (b.trng.imr, b.trng.sampleCnt1, b.trng.pool[0]))
      (stepWord (blank.setTrng { blank.block.trng with imr := 0#32, sampleCnt1 := 0x1234#32 }) 72 0x00000001_06400F0140) =
      some (0x0000000F#32, 0x0000FFFF#32, Config.draw 7) ∧
    left (·.trng) (stepWord blank 72 0x00000002_06400F0140) = some blank.block.trng := ⟨rfl, rfl⟩

theorem test_trng_ignored_writes :
    left id (stepWord blank 72 0x00000000_06400F0104) = some blank.block ∧
    left id (stepWord blank 72 0x00000000_06400F0110) = some blank.block ∧
    left id (stepWord blank 72 0x00000001_06400F01B8) = some blank.block ∧
    left id (stepWord blank 72 0x00000000_06400F0120) = some blank.block := ⟨rfl, rfl, rfl, rfl⟩

/-! ## SHA-256: vectors S1 to S17, E1 and P4 -/

theorem test_sha_reads_after_reset :
    answered (stepWord blank 40 0x2400F8000) = some (.value 0x00001206#32) ∧
    answered (stepWord blank 40 0x2400F8004) = some (.value 0x00000000#32) ∧
    answered (stepWord blank 40 0x2400F8008) = some (.value 0x6A09E667#32) ∧
    answered (stepWord blank 40 0x2400F800C) = some (.value 0xBB67AE85#32) ∧
    answered (stepWord blank 40 0x2400F8010) = some (.value 0x3C6EF372#32) ∧
    answered (stepWord blank 40 0x2400F8014) = some (.value 0xA54FF53A#32) ∧
    answered (stepWord blank 40 0x2400F8018) = some (.value 0x510E527F#32) ∧
    answered (stepWord blank 40 0x2400F801C) = some (.value 0x9B05688C#32) ∧
    answered (stepWord blank 40 0x2400F8020) = some (.value 0x1F83D9AB#32) ∧
    answered (stepWord blank 40 0x2400F8024) = some (.value 0x5BE0CD19#32) := ⟨rfl, rfl, rfl, rfl, rfl, rfl, rfl, rfl, rfl, rfl⟩

theorem test_sha_csr_with_a_queued_word :
    answered (stepWord (withQueue true [0x12345678#32]) 40 0x2400F8000) = some (.value 0x00001202#32) ∧
    answered (stepWord (withQueue false [0x12345678#32]) 40 0x2400F8000) = some (.value 0x00000202#32) := by decide

theorem test_sha_csr_writes :
    left (fun b => csrValue b.sha) (stepWord blank 72 0xFFFFFFFF_06400F8000) = some 0x00001306#32 ∧
    left (fun b => csrValue b.sha) (stepWord blank 72 0x00000000_06400F8000) = some 0x00000006#32 ∧
    left (fun b => csrValue b.sha) (stepWord blank 72 0x00000001_06400F8000) = some 0x00000006#32 ∧
    left (fun b => csrValue b.sha) (stepWord blank 72 0x00000200_06400F8000) = some 0x00000206#32 := by decide

theorem test_sha_start_discards_the_queue :
    left (·.sha) (stepWord (withQueue true [0x1#32]) 72 0x00001201_06400F8000) = some Sha.initial ∧
    left (·.sha.queue) (stepWord (withQueue true [0x1#32]) 72 0x00000200_06400F8000) = some [0x1#32] := by decide

theorem test_sha_word_is_queued :
    left (fun b => (b.sha.queue, b.sha.sumVld)) (stepWord blank 72 0x12345678_06400F8004) = some ([0x12345678#32], false) := by
  decide

theorem test_sha_abc_little_endian :
    left (fun b => (b.sha.h, b.sha.queue, b.sha.sumVld))
      (stepWord (withQueue true (0x80636261#32 :: List.replicate 14 0#32)) 72 0x18000000_06400F8004) =
      some (#v[0xBA7816BF#32, 0x8F01CFEA#32, 0x414140DE#32, 0x5DAE2223#32, 0xB00361A3#32, 0x96177A9C#32, 0xB410FF61#32,
               0xF20015AD#32], [], true) := by decide +kernel

theorem test_sha_bswap_is_sampled_at_the_sixteenth_word :
    left (·.sha.h) (stepWord (withQueue false ((List.range 15).map (BitVec.ofNat 32))) 72 0x0000000F_06400F8004) =
      some #v[0xD623B7E1#32, 0x81041EC8#32, 0x48EAAE2C#32, 0xB544FAE3#32, 0x779C2B8B#32, 0xB09C7C90#32, 0xE5962C49#32,
              0xCDDE609D#32] := by decide +kernel

theorem test_sha_swapped_counting_block :
    compress hashInit (((List.range 16).map (BitVec.ofNat 32)).map (msgWord true)) =
      #v[0xE57FE384#32, 0x12F53243#32, 0xB1DC6C6B#32, 0x5EA94B75#32, 0x72069393#32, 0xAB80AE27#32, 0xC9AFC7C1#32, 0xC014EDB5#32] := by
  decide +kernel

theorem test_sha_ones_block :
    compress hashInit (List.replicate 16 0xFFFFFFFF#32) =
      #v[0xEF0C748D#32, 0xF4DA50A8#32, 0xD6C43C01#32, 0x3EDC3CE7#32, 0x6C9D9FA9#32, 0xA1458ADE#32, 0x56EB86C0#32, 0xA64492D2#32] := by
  decide +kernel

theorem test_sha_second_block_of_p4 :
    compress #v[0x85E655D6#32, 0x417A1795#32, 0x3363376A#32, 0x624CDE5C#32, 0x76E09589#32, 0xCAC5F811#32, 0xCC4B32C1#32, 0xF20E533A#32]
      ((List.replicate 15 0x00000000#32 ++ [0xC0010000#32]).map (msgWord true)) =
      #v[0x248D6A61#32, 0xD20638B8#32, 0xE5C02693#32, 0x0C3E6039#32, 0xA33CE459#32, 0x64FF2167#32, 0xF6ECEDD4#32, 0x19DB06C1#32] := by
  decide +kernel

theorem test_sha_corner_arithmetic :
    (0xFFFFFFFF#32 + 0x00000001#32 = 0x00000000#32) ∧ rotr 0x00000001#32 1 = 0x80000000#32 ∧
    shr 0x80000000#32 31 = 0x00000001#32 ∧ bswap32 0x80636261#32 = 0x61626380#32 := by decide

theorem test_sha_ignored_writes :
    left id (stepWord blank 72 0x00000000_06400F8008) = some blank.block ∧
    left id (stepWord blank 72 0x00000000_06400F8024) = some blank.block := ⟨rfl, rfl⟩

/-! ## ROSC: vectors O1 to O8 -/

theorem test_rosc_reads_return_what_is_stored :
    let s := blank.setRosc { ctrl := 1#32, freqa := 2#32, freqb := 3#32, dormant := 4#32, div := 5#32, phase := 6#32, status := 7#32 }
    answered (stepWord s 40 0x2400E8000) = some (.value 1#32) ∧ answered (stepWord s 40 0x2400E8004) = some (.value 2#32) ∧
    answered (stepWord s 40 0x2400E8008) = some (.value 3#32) ∧ answered (stepWord s 40 0x2400E8010) = some (.value 4#32) ∧
    answered (stepWord s 40 0x2400E8014) = some (.value 5#32) ∧ answered (stepWord s 40 0x2400E8018) = some (.value 6#32) ∧
    answered (stepWord s 40 0x2400E801C) = some (.value 7#32) := ⟨rfl, rfl, rfl, rfl, rfl, rfl, rfl⟩

theorem test_rosc_writes_store_any_password :
    left (·.rosc.freqa) (stepWord blank 72 0x12345678_06400E8004) = some 0x12345678#32 ∧
    left (·.rosc.dormant) (stepWord blank 72 0x636F6D61_06400E8010) = some 0x636F6D61#32 ∧
    left (·.rosc.ctrl) (stepWord blank 72 0x00FABAA0_06400E8000) = some 0x00FABAA0#32 ∧
    left (·.rosc.freqb) (stepWord blank 72 0x00000001_06400E8008) = some 0x00000001#32 ∧
    left (·.rosc.div) (stepWord blank 72 0x00000002_06400E8014) = some 0x00000002#32 ∧
    left (·.rosc.phase) (stepWord blank 72 0x00000003_06400E8018) = some 0x00000003#32 ∧
    left (·.rosc.status) (stepWord blank 72 0x00000004_06400E801C) = some 0x00000004#32 := ⟨rfl, rfl, rfl, rfl, rfl, rfl, rfl⟩

theorem test_rosc_randombit_is_the_next_draw_under_the_mask :
    answered (stepWord blank 40 0x2400E8020) = some (.value (Config.draw 7 &&& 0x00000001#32)) ∧
    answered (stepWord { blank with randombitMask := 0xFFFFFFFF#32 } 40 0x2400E8020) =
      some (.value (Config.draw 7 &&& 0xFFFFFFFF#32)) ∧ drawsLeft (stepWord blank 40 0x2400E8020) = some 7 := ⟨rfl, rfl, rfl⟩

theorem test_rosc_randombit_write_consumes_no_draw :
    left id (stepWord blank 72 0xFFFFFFFF_06400E8020) = some blank.block ∧
    drawsLeft (stepWord blank 72 0xFFFFFFFF_06400E8020) = some 6 := ⟨rfl, rfl⟩

/-! ## RESETS: vectors Z1 to Z11 -/

theorem test_resets_read_after_reset : answered (stepWord blank 40 0x240020000) = some (.value 0x1FFFFFFF#32) := rfl

theorem test_resets_release_of_both :
    left (fun b => (b.resets.reset, b.trng.imr, b.trng.pool[0], b.sha))
      (stepWord ((withQueue true [0x1#32]).setTrng { blank.block.trng with imr := 0#32 }) 72 0x1DFDFFFF_0640020000) =
      some (0x1DFDFFFF#32, 0x0000000F#32, Config.draw 7, Sha.initial) := rfl

theorem test_resets_release_of_one :
    left (fun b => (b.trng.pool[5], b.sha.queue)) (stepWord (withQueue true [0x1#32]) 72 0x1DFFFFFF_0640020000) =
      some (Config.draw 12, [0x1#32]) ∧
    left (fun b => (b.trng.pool[5], b.sha.queue)) (stepWord (withQueue true [0x1#32]) 72 0x1FFDFFFF_0640020000) =
      some (Config.draw 6, []) := ⟨rfl, rfl⟩

theorem test_resets_other_writes_only_store :
    left id (stepWord blank 72 0xFFFFFFFF_0640020000) = some { blank.block with resets := { reset := 0xFFFFFFFF#32 } } ∧
    left id (stepWord blank 72 0x1FFFFFFE_0640020000) = some { blank.block with resets := { reset := 0x1FFFFFFE#32 } } ∧
    left id (stepWord (blank.setResets { reset := 0x1DFDFFFF#32 }) 72 0x1FFFFFFF_0640020000) = some blank.block := ⟨rfl, rfl, rfl⟩

/-! ## Dispatcher: vectors X1 to X13 and the trap -/

theorem test_dispatch_unknown_offsets_and_the_window :
    answered (stepWord blank 40 0x2400F0134) = some (.value 0#32) ∧ answered (stepWord blank 40 0x240020008) = some (.value 0#32) ∧
    answered (stepWord blank 40 0x2400E8024) = some (.value 0#32) ∧ answered (stepWord blank 40 0x2400F8100) = some (.value 0#32) ∧
    answered (stepWord blank 40 0x2400FFFFC) = some (.value 0#32) := ⟨rfl, rfl, rfl, rfl, rfl⟩

theorem test_dispatch_discarded_writes :
    left id (stepWord blank 72 0xDEADBEEF_06400F0134) = some blank.block ∧
    left id (stepWord blank 72 0x00000005_06400E800C) = some blank.block ∧
    left id (stepWord blank 72 0x00000005_0640020004) = some blank.block ∧
    left id (stepWord blank 72 0x00000005_06400F8028) = some blank.block ∧
    left id (stepWord blank 72 0x00000001_0640030000) = some blank.block ∧
    left id (stepWord blank 72 0x02020000_0640023000) = some blank.block := ⟨rfl, rfl, rfl, rfl, rfl, rfl⟩

theorem test_dispatch_refusals :
    stepWord blank 40 0x1400F0110 = .refused (.subwordMmio 0x400F0110#32 1#2) ∧
    stepWord blank 72 0x00000000_0440020000 = .refused (.subwordMmio 0x40020000#32 0#2) ∧
    stepWord blank 40 0x2400F8002 = .refused (.misalignedMmio 0x400F8002#32) ∧
    stepWord blank 40 0x2400F8001 = .refused (.misalignedMmio 0x400F8001#32) ∧
    stepWord blank 40 0xA400F8000 = .refused (.fetchFromMmio 0x400F8000#32) ∧
    stepWord blank 40 0x1400F8001 = .refused (.subwordMmio 0x400F8001#32 1#2) ∧
    stepWord blank 40 0xE400F8000 = .refused (.reservedCode 0x400F8000#32) ∧
    stepWord blank 40 0x3400F8000 = .refused (.reservedCode 0x400F8000#32) := ⟨rfl, rfl, rfl, rfl, rfl, rfl, rfl, rfl⟩

theorem test_dispatch_outside_the_window :
    stepWord blank 40 0x250000000 = .fault (.unmappedAccess 0x50000000#32 0x10000000#32) ∧
    stepWord blank 40 0x23FFFFFFC = .fault (.unmappedAccess 0x3FFFFFFC#32 0x10000000#32) ∧
    answered (stepWord { beside with mem := [(0x20000000, 0x11#8), (0x20000001, 0x22#8)] } 40 0x120000000) =
      some (.value 0x00002211#32) ∧
    stepWord beside 40 0x320000000 = .fault (.unmappedAccess 0x20000000#32 0x10000000#32) := ⟨rfl, rfl, rfl, rfl⟩

theorem test_trap_writes_the_value_to_memory :
    (match stepWord blank 40 0x2400F8000 with
      | .next t => t.mem
      | _ => []) = [(0x400F8000, 0x06#8), (0x400F8001, 0x12#8)] ∧
    (match stepWord blank 72 0x12345678_06400E8004 with
      | .next t => t.mem
      | _ => []) =
      [(0x400E8004, 0x78#8), (0x400E8005, 0x56#8), (0x400E8006, 0x34#8), (0x400E8007, 0x12#8)] := ⟨rfl, rfl⟩

theorem test_trap_replies :
    onAccess ⟨.data .read, 2#2, 0x400F8000#32⟩ blank = some .handled ∧
    onAccess ⟨.data .read, 2#2, 0x50000000#32⟩ blank = some .fault ∧
    onAccess ⟨.fetch, 2#2, 0x400F8000#32⟩ blank = none ∧
    onAccess ⟨.data .read, 2#2, 0x20000000#32⟩ beside = none := ⟨rfl, rfl, rfl, rfl⟩

theorem test_no_region_serves_a_byte_of_the_window :
    let s := { blank with regions := [⟨0x3FFFFFF0#32, 0x20⟩], mem := [(0x40000000, 0x11#8)] }
    exec (.outsideWindow ⟨.fetch, 2#2, 0x3FFFFFFE#32⟩) s = .fault (.unmappedAccess 0x3FFFFFFE#32 0x10000000#32) ∧
    answered (exec (.outsideWindow ⟨.fetch, 2#2, 0x3FFFFFFC#32⟩) s) = some (.value 0x00000000#32) := ⟨rfl, rfl⟩

/-! ## Secret sharing: vectors K2 to K9 -/

theorem test_share_split_key_k2 :
    (splitKeyWith (fun j => [[0xA5#8, 0xA5#8, 0xA5#8, 0xA5#8], [0x5A#8, 0x5A#8, 0x5A#8, 0x5A#8],
        [0x00#8, 0x11#8, 0x22#8, 0x33#8]].getD (j % 3) []) ((List.range 32).map (BitVec.ofNat 8))).drop 112 =
      [0xA5#8, 0xA5#8, 0xA5#8, 0xA5#8, 0x5A#8, 0x5A#8, 0x5A#8, 0x5A#8, 0x00#8, 0x11#8, 0x22#8, 0x33#8,
       0xE3#8, 0xF3#8, 0xC3#8, 0xD3#8] := by decide

theorem test_share_split_key_k3 :
    (splitKeyWith (fun j => (List.range 4).map fun k => BitVec.ofNat 8 (4 * j + k)) (List.replicate 32 0#8)).take 32 =
      [0x00#8, 0x01#8, 0x02#8, 0x03#8, 0x04#8, 0x05#8, 0x06#8, 0x07#8, 0x08#8, 0x09#8, 0x0A#8, 0x0B#8, 0x0C#8, 0x0D#8, 0x0E#8, 0x0F#8,
       0x0C#8, 0x0D#8, 0x0E#8, 0x0F#8, 0x10#8, 0x11#8, 0x12#8, 0x13#8, 0x14#8, 0x15#8, 0x16#8, 0x17#8, 0x08#8, 0x09#8, 0x0A#8, 0x0B#8] := by
  decide

theorem test_share_split_iv_k4_k7 :
    splitIVWith ((List.range 16).map fun k => BitVec.ofNat 8 (0xF0 + k)) ((List.range 16).map (BitVec.ofNat 8)) =
      ((List.range 16).map (fun k => BitVec.ofNat 8 (0xF0 + k)), List.replicate 16 0xF0#8) ∧
    (splitIVWith (List.replicate 16 0xFF#8) ((List.range 16).map (BitVec.ofNat 8))).2 =
      (List.range 16).map fun k => BitVec.ofNat 8 (0xFF - k) := by decide

theorem test_share_join_key_of_k5 :
    answered (exec (.shareJoinKey ((List.range 128).map fun k => if k % 16 < 12 then 0xFF#8 else 0#8)) blank) =
      some (.bytes (List.replicate 32 0xFF#8)) := by decide +kernel

theorem test_share_wrong_lengths :
    answered (exec (.shareSplitKey (List.replicate 31 0#8)) blank) = some (.error .inputLengthSplitKey) ∧
    answered (exec (.shareSplitIV (List.replicate 17 0#8)) blank) = some (.error .inputLengthSplitIV) ∧
    answered (exec (.shareJoinKey (List.replicate 127 0#8)) blank) = some (.error .inputLengthJoinKey) ∧
    drawsLeft (exec (.shareSplitKey (List.replicate 31 0#8)) blank) = some 6 := ⟨rfl, rfl, rfl, rfl⟩

theorem test_share_draws :
    drawsLeft (exec (.shareSplitKey (List.replicate 32 0#8)) blank) = some 30 ∧
    drawsLeft (exec (.shareSplitIV (List.replicate 16 0#8)) blank) = some 7 ∧
    drawsLeft (exec (.shareJoinKey (List.replicate 128 0#8)) blank) = some 6 := ⟨rfl, rfl, rfl⟩

/-! ## The step -/

theorem test_step_idle_and_in_order :
    step blank = .next blank ∧
    answered (step { blank with requests := [.op (.bus ⟨.data .read, 2#2, 0x400F0110#32⟩), .engineFault .internalError] }) =
      some (.value 0x00000001#32) ∧
    step { blank with requests := [.engineFault .internalError] } = .fault (.engineInternalError 0x10000000#32) := ⟨rfl, rfl, rfl⟩

theorem test_step_runs_a_word_from_reset :
    answered (stepWord State.reset 40 0x240020000) = some (.value 0x1FFFFFFF#32) ∧
    answered (stepWord State.reset 40 0x2400F8000) = some (.value 0x00001206#32) := ⟨rfl, rfl⟩

/-! ## Witnesses: what meets the hypotheses of each statement -/

theorem witness_DecodingUndoesEncoding :
    (Instr.trngRngImrW 1#32).wf = true ∧ (Instr.resetsUnknownR 0x004#12).wf = true ∧ (Instr.resetsUnknownW 0xFFC#12 1#32).wf = true ∧
    (Instr.windowUnmappedR 0x40000000#32).wf = true ∧ (Instr.windowUnmappedW 0x400FFFFC#32 1#32).wf = true ∧
    (Instr.refuseFetch 3#2 0x40000000#32).wf = true ∧ (Instr.refuseReservedKind 0#2 0x400FFFFF#32).wf = true ∧
    (Instr.refuseReservedSize (.write 1#32) 0x400FFFFF#32).wf = true ∧ (Instr.refuseSubword .read true 0x40000001#32).wf = true ∧
    (Instr.refuseMisalignedOdd .read 0x400FFFFF#32).wf = true ∧ (Instr.refuseMisalignedHalf .read 0x40000002#32).wf = true ∧
    (Instr.outsideWindow ⟨.reserved, 3#2, 0x3FFFFFFF#32⟩).wf = true ∧ (Instr.outsideWindow ⟨.fetch, 1#2, 0x40100000#32⟩).wf = true ∧
    (Instr.shareSplitKey []).wf = true := by decide

theorem witness_AnAddressFallsInAtMostOneRegion :
    Periph.trng.holds 0x400F0000#32 = true ∧ Periph.trng.holds 0x400F0FFF#32 = true ∧ Periph.trng.holds 0x400F1000#32 = false ∧
    Periph.sha.holds 0x400F8000#32 = true ∧ Periph.rosc.holds 0x400E8FFF#32 = true ∧ Periph.resets.holds 0x40020000#32 = true := by
  decide

theorem witness_StepRunsTheDecodedInstruction :
    let s := blank.present (.op (.bus ⟨.data .read, 2#2, 0x400F0100#32⟩))
    s.requests = .op (.bus ⟨.data .read, 2#2, 0x400F0100#32⟩) :: [] ∧ Instr.trngRngImrR.wf = true ∧
    s.requests = .op (encode .trngRngImrR) :: [] ∧ blank.requests = [] := by decide

theorem witness_APresentedTableWordIsRunNext : decodeTableWord 40 0x2400F0100 = some .trngRngImrR := by decide

theorem witness_EngineFaultsEndTheRun :
    (blank.present (.engineFault .illegalInstruction)).requests = .engineFault .illegalInstruction :: [] ∧
    (blank.present (.engineFault .internalError)).requests = .engineFault .internalError :: [] := by decide

theorem witness_EveryStepKeepsTheInvariant :
    let s := (withQueue true (List.replicate 15 0#32)).present (.op (.bus ⟨.data (.write 0#32), 2#2, 0x400F8004#32⟩))
    s.Inv ∧ completes (step s) = true := ⟨⟨rfl, by decide, rfl⟩, by decide +kernel⟩

theorem witness_NoInstructionWritesParametersOrRequests : completes (exec (.trngRngIcrW 1#32) blank) = true := rfl

/-- The two clauses of the statements on RNG_ICR, RND_SOURCE_ENABLE, TRNG_SW_RESET and CSR writes. -/
theorem witness_action_bit_clauses : (1#32).getLsbD 0 = true ∧ (0xFFFFFFFE#32).getLsbD 0 = false := by decide

theorem witness_ThePoolChangesOnlyByRefreshOrReinitialisation :
    completes (exec .trngEhrData0R blank) = true ∧ completes (exec (.trngTrngSwResetW 1#32) blank) = true ∧
    completes (exec (.resetsResetW 0x1DFFFFFF#32) blank) = true := ⟨rfl, rfl, rfl⟩

theorem witness_WdataWriteQueuesOrCompresses :
    (withQueue true []).block.sha.queue.length ≠ 15 ∧ (withQueue true (List.replicate 14 0#32)).block.sha.queue.length ≠ 15 ∧
    (withQueue true (List.replicate 15 0#32)).block.sha.queue.length = 15 := by decide

theorem witness_TheHashStateFollowsTheWordsWritten :
    ShaHistory.matches ⟨[], List.replicate 15 1#32⟩ (withQueue true (List.replicate 15 1#32)).block.sha ∧
    ShaHistory.matches ⟨[], []⟩ blank.block.sha ∧ completes (exec (.sha256CsrW 1#32) blank) = true :=
  ⟨⟨rfl, rfl, by decide⟩, ⟨rfl, rfl, by decide⟩, rfl⟩

theorem witness_AStreamOfWordsIsHashedBlockByBlock : (0x00001201#32).getLsbD 0 = true := by decide

theorem witness_TheScheduleFollowsItsRecurrence : (List.replicate 16 0#32).length = 16 := by decide

theorem witness_SumVldReadsOneExactlyWhenNoWordIsQueued : blank.Inv ∧ (withQueue true [1#32]).Inv :=
  ⟨⟨rfl, by decide, rfl⟩, ⟨rfl, by decide, rfl⟩⟩

theorem witness_RoscFieldsChangeOnlyByTheirOwnWrites :
    completes (exec (.resetsResetW 0#32) blank) = true ∧ ∀ v, Instr.resetsResetW 0#32 ≠ .roscCtrlW v := ⟨rfl, by simp⟩

theorem witness_UnknownOffsetsReadZeroAndDiscardWrites :
    Periph.resets.unknown 0x004#12 = true ∧ Periph.resets.unknown 0xFFC#12 = true ∧ Periph.rosc.unknown 0x00C#12 = true ∧
    Periph.rosc.unknown 0x024#12 = true ∧ Periph.trng.unknown 0x000#12 = true ∧ Periph.trng.unknown 0x1BC#12 = true ∧
    Periph.sha.unknown 0x028#12 = true ∧ Periph.sha.unknown 0xFFC#12 = true := by decide

theorem witness_UnmappedWindowAddressesReadZeroAndDiscardWrites :
    (Instr.windowUnmappedR 0x40000000#32).wf = true ∧ (Instr.windowUnmappedR 0x400FFFFC#32).wf = true ∧
    (Instr.windowUnmappedR 0x40021000#32).wf = true ∧ (Instr.windowUnmappedR 0x400EFFFC#32).wf = true := by decide

theorem witness_AtomicAliasesReachNoPeripheral :
    0x1000 ≤ (0x1000#14).toNat ∧ (0x1000#14).getLsbD 0 = false ∧ (0x1000#14).getLsbD 1 = false ∧
    0x1000 ≤ (0x3FFC#14).toNat ∧ (0x3FFC#14).getLsbD 0 = false ∧ (0x3FFC#14).getLsbD 1 = false := by decide

theorem witness_TheAdmissionCheckRefusesInOrder :
    inWindow 0x40000000#32 = true ∧ inWindow 0x400FFFFF#32 = true ∧
    (BusAccess.reserved ≠ .fetch ∧ BusAccess.data .read ≠ .fetch) ∧ (0x400FFFFF#32).toNat % 4 ≠ 0 ∧
    (0x40000002#32).toNat % 4 ≠ 0 := by decide

theorem witness_EveryAdmittedTransactionCompletes :
    inWindow 0x40000000#32 = true ∧ (0x40000000#32).toNat % 4 = 0 ∧ inWindow 0x400FFFFC#32 = true ∧
    (0x400FFFFC#32).toNat % 4 = 0 := by decide

theorem witness_ATransactionChangesOnlyItsPeripheral :
    completes (exec (.trngRngImrW 1#32) blank) = true ∧ ownerOf (.trngRngImrW 1#32) ≠ some .sha ∧
    ∀ v, Instr.trngRngImrW 1#32 ≠ .resetsResetW v := ⟨rfl, by decide, by simp⟩

theorem witness_ATransactionReadsOnlyItsPeripheral :
    ownerOf .roscRandombitR = some .rosc ∧ Block.agreeOn .rosc blank.block (withQueue true [1#32]).block ∧
    blank.draws = (withQueue true [1#32]).draws ∧ blank.randombitMask = (withQueue true [1#32]).randombitMask ∧
    ownerOf (.resetsResetW 0#32) = some .resets ∧ ownerOf (.sha256UnknownR 0x028#12) = some .sha := ⟨rfl, rfl, rfl, rfl, rfl, rfl⟩

theorem witness_ReadsAreIdempotent :
    inWindow 0x400F0114#32 = true ∧ (0x400F0114#32).toNat % 4 = 0 ∧ 0x400F0114#32 ≠ 0x400E8020#32 := by decide

theorem witness_StorageWritesAreIdempotent :
    blank.mem.wf = true ∧ Instr.roscCtrlW 1#32 ∈ [Instr.trngRngImrW 1#32, .roscCtrlW 1#32] := by decide

theorem witness_DrawsAreConsumedOnlyWhereTheRulesSay :
    completes (exec .roscRandombitR blank) = true ∧ completes (exec (.shareSplitKey (List.replicate 32 0#8)) blank) = true :=
  ⟨rfl, rfl⟩

theorem witness_UnmappedAccessFaults :
    inWindow 0x3FFFFFFC#32 = false ∧ inWindow 0x40100000#32 = false ∧ inWindow 0x20000100#32 = false ∧
    ∀ r ∈ beside.regions, ¬ (r.base.toNat ≤ (0x20000100#32).toNat ∧ (0x20000100#32).toNat < r.base.toNat + r.size) := by decide

theorem witness_MappedAccessesAreServedFromMemory :
    inWindow 0x200000FC#32 = false ∧ (⟨0x20000000#32, 0x100⟩ : Config.Region) ∈ beside.regions ∧
    (0x20000000#32).toNat ≤ (0x200000FC#32).toNat ∧ (0x200000FC#32).toNat + 4 ≤ (0x20000000#32).toNat + 0x100 ∧
    (0x200000FE#32).toNat + 2 ≤ (0x20000000#32).toNat + 0x100 ∧ (0x200000FF#32).toNat + 1 ≤ (0x20000000#32).toNat + 0x100 ∧
    (0x200000FF#32).toNat + 4 ≤ 0x100000000 ∧ (0x200000FC#32).toNat + 4 ≤ 0x40000000 ∧ (0x3FFFFFFC#32).toNat + 4 ≤ 0x40000000 ∧
    0x40100000 ≤ (0x40100000#32).toNat := by decide

theorem witness_ReservedCodesOutsideTheWindowFault :
    inWindow 0x3FFFFFFF#32 = false ∧ inWindow 0x40100000#32 = false ∧
    (⟨.reserved, 2#2, 0x3FFFFFFF#32⟩ : Transaction).access = .reserved ∧
    (⟨.data .read, 3#2, 0x40100000#32⟩ : Transaction).size = 3#2 := by decide

theorem witness_NoWindowTransactionChangesAFetchedInstruction :
    inWindow 0x400E8004#32 = true ∧ completes (exec (decode ⟨.data (.write 1#32), 2#2, 0x400E8004#32⟩) beside) = true ∧
    completes (exec (decode ⟨.fetch, 2#2, 0x20000000#32⟩) beside) = true ∧
    completes (exec (decode ⟨.fetch, 2#2, 0x20000100#32⟩) beside) = false := ⟨rfl, rfl, rfl, rfl⟩

theorem witness_AccessesNoRegionHoldsWholeFault :
    (∀ r ∈ beside.regions, ¬ (r.base.toNat ≤ (0x200000FD#32).toNat ∧ (0x200000FD#32).toNat + 4 ≤ r.base.toNat + r.size)) ∧
    0x100000000 < (0xFFFFFFFF#32).toNat + 2 ∧ (0x3FFFFFFF#32).toNat < 0x40000000 ∧ 0x40000000 < (0x3FFFFFFF#32).toNat + 2 ∧
    inWindow 0x200000FD#32 = false ∧ inWindow 0xFFFFFFFF#32 = false ∧ inWindow 0x3FFFFFFF#32 = false := by decide

/-- The lengths of the statements on splitKey, splitIV, joinKey and the reconstruction, and draws of four bytes. -/
theorem witness_share_lengths :
    (List.replicate 32 0#8).length = 32 ∧ (List.replicate 16 0#8).length = 16 ∧ (List.replicate 128 0#8).length = 128 ∧
    ∀ j, (drawBytes j 4).length = 4 := ⟨rfl, rfl, rfl, fun _ => rfl⟩

theorem witness_WrongLengthInputsAreErrorsWithoutOutput :
    (List.replicate 31 0#8).length ≠ 32 ∧ (List.replicate 33 0#8).length ≠ 32 ∧ (List.replicate 17 0#8).length ≠ 16 ∧
    (List.replicate 127 0#8).length ≠ 128 := by simp

end Sys2Proof.Machine
end

section
/-! SUPPORT. Decoding undoes encoding on well-formed instructions (spec/30_encoding.md R80 to R87). -/

namespace Sys2Proof

/-- The unknown-offset instruction of a region (R86, R222). -/
def Periph.unknownInstr (p : Periph) (off : BitVec 12) (acc : DataAccess) : Instr :=
  match p, acc with
  | .trng, .read => .trngUnknownR off
  | .trng, .write v => .trngUnknownW off v
  | .sha, .read => .sha256UnknownR off
  | .sha, .write v => .sha256UnknownW off v
  | .rosc, .read => .roscUnknownR off
  | .rosc, .write v => .roscUnknownW off v
  | .resets, .read => .resetsUnknownR off
  | .resets, .write v => .resetsUnknownW off v

theorem Periph.unknown_iff (p : Periph) (off : BitVec 12) :
    p.unknown off = true ↔ off.getLsbD 0 = false ∧ off.getLsbD 1 = false ∧ p.known off = false := by
  simp [Periph.unknown, and_assoc]

/-- A word access at an unknown offset of a region is the region's unknown-offset instruction (R86). -/
theorem decodeOperation_unknown {p : Periph} {off : BitVec 12} (acc : DataAccess) (h : p.unknown off = true) :
    decodeOperation (wordAccess acc (p.address off)) = p.unknownInstr off acc := by
  obtain ⟨h0, h1, hk⟩ := (p.unknown_iff off).mp h
  refine (decode_address h0 h1).trans ?_
  cases p <;> simp only [Periph.known, Option.isSome_eq_false_iff, Option.isNone_iff_eq_none] at hk
  case trng => cases acc <;> simp [decodeTrng, hk, Periph.unknownInstr]
  case sha => cases acc <;> simp [decodeSha, hk, Periph.unknownInstr]
  case rosc => cases acc <;> simp [decodeRosc, hk, Periph.unknownInstr]
  case resets => cases acc <;> simp [decodeResets, hk, Periph.unknownInstr]

/-- A word access at a named register is the register's instruction (R83, R86). -/
theorem decodeOperation_trngReg (r : TrngReg) (acc : DataAccess) :
    decodeOperation (wordAccess acc (Periph.trng.address r.offset)) = decodeTrng r.offset acc :=
  decode_address r.offset_aligned.1 r.offset_aligned.2
theorem decodeOperation_shaReg (r : ShaReg) (acc : DataAccess) :
    decodeOperation (wordAccess acc (Periph.sha.address r.offset)) = decodeSha r.offset acc :=
  decode_address r.offset_aligned.1 r.offset_aligned.2
theorem decodeOperation_roscReg (r : RoscReg) (acc : DataAccess) :
    decodeOperation (wordAccess acc (Periph.rosc.address r.offset)) = decodeRosc r.offset acc :=
  decode_address r.offset_aligned.1 r.offset_aligned.2
theorem decodeOperation_resetsReg (r : ResetsReg) (acc : DataAccess) :
    decodeOperation (wordAccess acc (Periph.resets.address r.offset)) = decodeResets r.offset acc :=
  decode_address r.offset_aligned.1 r.offset_aligned.2

/-- A data access in the window goes through the size and alignment checks (R226). -/
theorem decodeOperation_data {acc : DataAccess} {size : BitVec 2} {a : Word} (h : inWindow a = true) :
    decodeOperation (.bus ⟨.data acc, size, a⟩) = decodeData acc size a := by
  simp [decodeOperation, decode, h]

/-- A well-formed access outside every region of the window has no region. -/
theorem regionOf_of_unmapped {a : Word} (h : (inWindow a && aligned a && (regionOf a).isNone) = true) : regionOf a = none := by
  simp only [Bool.and_eq_true, Option.isNone_iff_eq_none] at h
  exact h.2

/-- A word-aligned word access in the window outside every region passes the checks (R225). -/
theorem decodeOperation_unmapped {acc : DataAccess} {a : Word}
    (h : (inWindow a && aligned a && (regionOf a).isNone) = true) :
    decodeOperation (wordAccess acc a) = decodeAdmitted acc a := by
  simp only [Bool.and_eq_true, aligned, Bool.not_eq_true'] at h
  obtain ⟨⟨hw, h0, h1⟩, -⟩ := h
  exact decode_admitted hw h0 h1

/-- Decoding gives back every well-formed instruction: a named register's access computes, the other rows pass the checks that
their well-formedness names. -/
theorem decodeOperation_encode {i : Instr} (h : i.wf = true) : decodeOperation (encode i) = i := by
  cases i with
  | trngUnknownR off => exact decodeOperation_unknown .read h
  | trngUnknownW off v => exact decodeOperation_unknown (.write v) h
  | sha256UnknownR off => exact decodeOperation_unknown .read h
  | sha256UnknownW off v => exact decodeOperation_unknown (.write v) h
  | roscUnknownR off => exact decodeOperation_unknown .read h
  | roscUnknownW off v => exact decodeOperation_unknown (.write v) h
  | resetsUnknownR off => exact decodeOperation_unknown .read h
  | resetsUnknownW off v => exact decodeOperation_unknown (.write v) h
  | windowUnmappedR a =>
    exact (decodeOperation_unmapped h).trans (by simp [decodeAdmitted, regionOf_of_unmapped h])
  | windowUnmappedW a v =>
    exact (decodeOperation_unmapped h).trans (by simp [decodeAdmitted, regionOf_of_unmapped h])
  | refuseFetch size a =>
    have hw : inWindow a = true := h
    simp [encode, decodeOperation, decode, hw]
  | refuseReservedKind size a =>
    have hw : inWindow a = true := h
    simp [encode, decodeOperation, decode, hw]
  | refuseReservedSize acc a => exact decodeOperation_data h
  | refuseSubword acc half a => exact (decodeOperation_data h).trans (by cases half <;> rfl)
  | refuseMisalignedOdd acc a =>
    obtain ⟨hw, h0⟩ : inWindow a = true ∧ a.getLsbD 0 = true := by simpa [Instr.wf] using h
    exact (decodeOperation_data hw).trans (by simp [decodeData, h0])
  | refuseMisalignedHalf acc a =>
    obtain ⟨⟨hw, h0⟩, h1⟩ : (inWindow a = true ∧ a.getLsbD 0 = false) ∧ a.getLsbD 1 = true := by
      simpa [Instr.wf] using h
    exact (decodeOperation_data hw).trans (by simp only [decodeData, h0, h1]; rfl)
  | outsideWindow t => exact decode_outside (by simpa [Instr.wf] using h)
  | shareSplitKey key => rfl
  | shareSplitIV iv => rfl
  | shareJoinKey shares => rfl
  | _ =>
    simp only [encode, decodeOperation_trngReg, decodeOperation_shaReg, decodeOperation_roscReg, decodeOperation_resetsReg,
      decodeTrng, decodeSha, decodeRosc, decodeResets, TrngReg.ofOffset_offset, ShaReg.ofOffset_offset,
      RoscReg.ofOffset_offset, ResetsReg.ofOffset_offset]

end Sys2Proof
end

section
/-! SUPPORT. One step of the machine by its oldest request (spec/00_scope.md R10, spec/10_state.md R21), and the settled
statements on the step and on what no instruction writes. -/

namespace Sys2Proof.Machine

/-- A step serves the oldest request on the state without it (R10). -/
theorem step_of_requests_cons {s : State} {r : Request} {rest : List Request} (h : s.requests = r :: rest) :
    step s = serve r { s with requests := rest } := by
  simp only [step, State.takeRequest, h, List.tail_cons]

/-- With no request the block waits (R21). -/
theorem step_of_requests_nil {s : State} (h : s.requests = []) : step s = .next s := by
  simp only [step, h]

/-- A request just presented is served on the state it was presented to. -/
theorem step_present (s : State) (r : Request) : step (s.present r) = serve r s := step_of_requests_cons rfl

/-- A table word is an instruction exactly where it is a transaction, and then the transaction's (R81). -/
theorem decodeTableWord_eq_map (nbits w : Nat) : decodeTableWord nbits w = (tableTransaction nbits w).map decode := by
  simp only [decodeTableWord, decodeBytes, tableTransaction]
  cases Transaction.ofBytes (tableBytes nbits w) <;> rfl

/-- A word that is a transaction is presented as that transaction. -/
theorem State.withFetchWord_of_transaction {s : State} {nbits w : Nat} {t : Transaction}
    (h : tableTransaction nbits w = some t) : s.withFetchWord nbits w = s.present (.op (.bus t)) := by
  simp only [State.withFetchWord, h]

/-- Settles O7: a step serves the head of the request list, and decoding undoes encoding. -/
theorem stepRunsTheDecodedInstruction : Obligations.StepRunsTheDecodedInstruction := by
  refine ⟨fun s o rest h => step_of_requests_cons h, fun s i rest hi h => ?_, fun s h => step_of_requests_nil h⟩
  calc step s = exec (decodeOperation (encode i)) { s with requests := rest } := step_of_requests_cons h
    _ = exec i { s with requests := rest } := by rw [decodeOperation_encode hi]

/-- Settles O8: the word is presented as its transaction, and the step serves just that. -/
theorem aPresentedTableWordIsRunNext : Obligations.APresentedTableWordIsRunNext := by
  intro s nbits w i h
  rw [decodeTableWord_eq_map, Option.map_eq_some_iff] at h
  obtain ⟨t, ht, rfl⟩ := h
  rw [State.withFetchWord_of_transaction ht, step_present]
  rfl

/-- Settles O13: the changes of `NextShape` leave these fields alone. -/
theorem noInstructionWritesParametersOrRequests : Obligations.NoInstructionWritesParametersOrRequests := by
  intro i s t h
  obtain ⟨b, n, m, r, -, -, rfl⟩ := exec_next_shape h
  exact ⟨rfl, rfl, rfl, rfl⟩

end Sys2Proof.Machine
end

section
/-! SUPPORT. A transaction and its peripheral (spec/00_scope.md R11): what a transaction to a peripheral may read (`SameFor`), what it is
to read and change no more (`Confined`, `LocalTo`), and what every instruction of the model does in these terms (`Footprint`). -/

namespace Sys2Proof.Machine

/-- Two states agree on all that a transaction to the peripheral may read: its record, the draws consumed and the mask. -/
structure SameFor (p : Periph) (s u : State) : Prop where
  record : Block.agreeOn p s.block u.block
  draws : s.draws = u.draws
  mask : s.randombitMask = u.randombitMask

@[simp] theorem Block.agreeOn_refl (p : Periph) (b : Block) : Block.agreeOn p b b := by
  cases p <;> rfl

theorem Block.agreeOn.trans {p : Periph} {b c d : Block} (h : Block.agreeOn p b c) (h' : Block.agreeOn p c d) :
    Block.agreeOn p b d := by
  cases p <;> exact Eq.trans h h'

/-- An operation on the state that reads and changes nothing of the block beyond one peripheral. -/
structure Confined (p : Periph) (g : State → State) : Prop where
  keeps : ∀ s q, q ≠ p → Block.agreeOn q s.block (g s).block
  reads : ∀ s u, SameFor p s u → SameFor p (g s) (g u)

/-- A value taken from the state that depends on nothing beyond one peripheral. -/
def SeesOnly (p : Periph) (f : State → Word) : Prop := ∀ s u, SameFor p s u → f s = f u

/-! Each operation of the meanings is confined to its peripheral. -/

namespace Confined

variable {p : Periph}

theorem id : Confined p fun s => s := ⟨fun _ _ _ => Block.agreeOn_refl _ _, fun _ _ h => h⟩

theorem comp {f g : State → State} (hf : Confined p f) (hg : Confined p g) : Confined p fun s => f (g s) where
  keeps s q hq := (hg.keeps s q hq).trans (hf.keeps (g s) q hq)
  reads _ _ h := hf.reads _ _ (hg.reads _ _ h)

theorem ite (b : Bool) {f g : State → State} (hf : Confined p f) (hg : Confined p g) :
    Confined p fun s => if b then f s else g s := by
  cases b
  · exact hg
  · exact hf

theorem takeDraws (n : Nat) : Confined p fun s => s.takeDraws n :=
  ⟨fun _ _ _ => Block.agreeOn_refl _ _, fun _ _ h => ⟨h.record, congrArg (· + n) h.draws, h.mask⟩⟩

theorem finishWrite (a v : Word) : Confined p fun s => s.finishWrite a v :=
  ⟨fun _ _ _ => Block.agreeOn_refl _ _, fun _ _ h => ⟨h.record, h.draws, h.mask⟩⟩

theorem setTrng (f : Trng → Nat → Trng) : Confined .trng fun s => s.setTrng (f s.block.trng s.draws) where
  keeps
    | _, .trng, hq => absurd rfl hq
    | _, .sha, _ => rfl
    | _, .rosc, _ => rfl
    | _, .resets, _ => rfl
  reads _ _ h := ⟨congrArg₂ f h.record h.draws, h.draws, h.mask⟩

theorem setSha (f : Sha → Sha) : Confined .sha fun s => s.setSha (f s.block.sha) where
  keeps
    | _, .trng, _ => rfl
    | _, .sha, hq => absurd rfl hq
    | _, .rosc, _ => rfl
    | _, .resets, _ => rfl
  reads _ _ h := ⟨congrArg f h.record, h.draws, h.mask⟩

theorem setRosc (f : Rosc → Rosc) : Confined .rosc fun s => s.setRosc (f s.block.rosc) where
  keeps
    | _, .trng, _ => rfl
    | _, .sha, _ => rfl
    | _, .rosc, hq => absurd rfl hq
    | _, .resets, _ => rfl
  reads _ _ h := ⟨congrArg f h.record, h.draws, h.mask⟩

theorem refresh : Confined .trng State.refresh :=
  (takeDraws 6).comp (setTrng fun x k => { x with pool := drawPool k })

theorem reinitTrng : Confined .trng State.reinitTrng :=
  (takeDraws 6).comp (setTrng fun _ k => Trng.initial (drawPool k))

end Confined

namespace SeesOnly

theorem const {p : Periph} (v : Word) : SeesOnly p fun _ => v := fun _ _ _ => rfl
theorem trng (f : Trng → Word) : SeesOnly .trng fun s => f s.block.trng := fun _ _ h => congrArg f h.record
theorem sha (f : Sha → Word) : SeesOnly .sha fun s => f s.block.sha := fun _ _ h => congrArg f h.record
theorem rosc (f : Rosc → Word) : SeesOnly .rosc fun s => f s.block.rosc := fun _ _ h => congrArg f h.record
theorem resets (f : Resets → Word) : SeesOnly .resets fun s => f s.block.resets := fun _ _ h => congrArg f h.record

theorem randombit : SeesOnly .rosc fun s => Config.draw (s.draws + 1) &&& s.randombitMask :=
  fun _ _ h => congrArg₂ (fun k m => Config.draw (k + 1) &&& m) h.draws h.mask

end SeesOnly

/-- An instruction always completes, by an operation confined to one peripheral, and its answer depends on that peripheral
alone. -/
def LocalTo (p : Periph) (i : Instr) : Prop :=
  ∃ g : State → State, (∀ s, exec i s = .next (g s)) ∧ Confined p g ∧
    ∀ s u, SameFor p s u → (g s).response = (g u).response

/-- A register read that draws `n` times is local to its peripheral when its value is. -/
theorem LocalTo.readAfter {p : Periph} {off : BitVec 12} {i : Instr} {f : State → Word} (n : Nat) (hf : SeesOnly p f)
    (hi : ∀ s, exec i s = readRegister p off (f s) (s.takeDraws n)) : LocalTo p i :=
  ⟨_, hi,
    ⟨fun _ _ _ => Block.agreeOn_refl _ _, fun _ _ h => ⟨h.record, congrArg (· + n) h.draws, h.mask⟩⟩,
    fun s u h => congrArg Response.value (hf s u h)⟩

theorem LocalTo.read {p : Periph} {off : BitVec 12} {i : Instr} {f : State → Word} (hf : SeesOnly p f)
    (hi : ∀ s, exec i s = readRegister p off (f s) s) : LocalTo p i :=
  .readAfter 0 hf hi

/-- A register write is local to its peripheral when its effect is. -/
theorem LocalTo.write {p : Periph} {off : BitVec 12} {v : Word} {i : Instr} {g : State → State} (hg : Confined p g)
    (hi : ∀ s, exec i s = writeRegister p off v (g s)) : LocalTo p i :=
  ⟨_, hi, (Confined.finishWrite _ v).comp hg, fun _ _ _ => rfl⟩

/-- Every instruction is a RESETS write, belongs to a peripheral and is local to it, or belongs to none and leaves the block. -/
inductive Footprint : Instr → Prop where
  | resetWrite (v : Word) : Footprint (.resetsResetW v)
  | owned {i : Instr} {p : Periph} (ho : ownerOf i = some p) (hl : LocalTo p i) : Footprint i
  | unowned {i : Instr} (ho : ownerOf i = none) (hb : ∀ s t, exec i s = .next t → t.block = s.block) : Footprint i

/-- A word access at an address of a region belongs to that region's peripheral or to none. -/
theorem ownerOf_address {i : Instr} {acc : DataAccess} {p : Periph} {off : BitVec 12}
    (he : encode i = wordAccess acc (p.address off)) : ownerOf i = some p ∨ ownerOf i = none := by
  simp only [ownerOf, he, wordAccess, regionOf_address]
  split
  · exact .inl rfl
  · exact .inr rfl

/-- A word access that is misaligned or in no region belongs to no peripheral. -/
theorem ownerOf_eq_none {i : Instr} {acc : DataAccess} {a : Word} (he : encode i = wordAccess acc a)
    (h : i.wf = true → aligned a = false ∨ regionOf a = none) : ownerOf i = none := by
  simp only [ownerOf, he, wordAccess]
  split
  · next hc =>
    simp only [Bool.and_eq_true] at hc
    obtain ⟨⟨⟨hwf, -⟩, -⟩, ha⟩ := hc
    rcases h hwf with hm | hr
    · simp [hm] at ha
    · exact hr
  · rfl

/-- A transaction outside the window belongs to no peripheral (R227). -/
theorem ownerOf_outsideWindow (t : Transaction) : ownerOf (.outsideWindow t) = none := by
  obtain ⟨access, size, a⟩ := t
  cases access with
  | data acc => simp [ownerOf, encode, Instr.wf]
  | fetch => rfl
  | reserved => rfl

/-- An access at an unknown offset leaves the block, whether or not it is well-formed (R222). -/
theorem Footprint.unknownRead {i : Instr} {p : Periph} {off : BitVec 12} (he : encode i = wordAccess .read (p.address off))
    (hi : ∀ s, exec i s = readRegister p off zeroValue s) : Footprint i := by
  rcases ownerOf_address he with ho | ho
  · exact .owned ho (.read (.const _) hi)
  · refine .unowned ho fun s t h => ?_
    cases (hi s).symm.trans h
    rfl

theorem Footprint.unknownWrite {i : Instr} {p : Periph} {off : BitVec 12} {v : Word}
    (he : encode i = wordAccess (.write v) (p.address off)) (hi : ∀ s, exec i s = writeRegister p off v s) : Footprint i := by
  rcases ownerOf_address he with ho | ho
  · exact .owned ho (.write .id hi)
  · refine .unowned ho fun s t h => ?_
    cases (hi s).symm.trans h
    rfl

/-- A refused instruction completes in no state. -/
theorem Footprint.refused {i : Instr} {r : Refusal} (ho : ownerOf i = none) (hi : ∀ s, exec i s = .refused r) : Footprint i :=
  .unowned ho fun s t h => by cases (hi s).symm.trans h

/-- An access the harness serves leaves the block (R227). -/
theorem harnessAccess_block {t : Transaction} {s u : State} (h : harnessAccess t s = .next u) : u.block = s.block := by
  rcases harnessAccess_next h with ⟨w, rfl⟩ | ⟨bs, -, -, rfl⟩
  · rfl
  · rfl

/-- A host call of a right length and one of a wrong length complete, and both leave the block (R240 to R245). -/
theorem Footprint.hostCall {i : Instr} {c : Prop} [Decidable c] {f g : State → State} (ho : ownerOf i = none)
    (hi : ∀ s, exec i s = if c then .next (f s) else .next (g s)) (hf : ∀ s, (f s).block = s.block)
    (hg : ∀ s, (g s).block = s.block) : Footprint i := by
  refine .unowned ho fun s t h => ?_
  rw [hi s] at h
  split at h <;> cases h
  · exact hf s
  · exact hg s

/-- A RESETS write reads the RESETS record and the draws consumed alone, though it may re-initialise two other peripherals. -/
theorem SameFor.writeReset {s u : State} (h : SameFor .resets s u) (v : Word) :
    SameFor .resets (s.writeReset v) (u.writeReset v) := by
  have hr : s.block.resets = u.block.resets := h.record
  rw [State.writeReset_eq, State.writeReset_eq]
  exact ⟨rfl, by simp only [hr, h.draws], h.mask⟩

/-- Every instruction of the model has a footprint. -/
theorem Footprint.of_instr (i : Instr) : Footprint i := by
  cases i with
  | trngRngImrR => exact .owned rfl (.read (.trng Trng.imr) fun _ => rfl)
  | trngRngImrW v => exact .owned rfl (.write (.setTrng fun x _ => { x with imr := v }) fun _ => rfl)
  | trngRngIsrR => exact .owned rfl (.read (.const _) fun _ => rfl)
  | trngRngIsrW v => exact .owned rfl (.write .id fun _ => rfl)
  | trngRngIcrR => exact .owned rfl (.read (.const _) fun _ => rfl)
  | trngRngIcrW v => exact .owned rfl (.write (.ite _ .refresh .id) fun _ => rfl)
  | trngTrngConfigR => exact .owned rfl (.read (.trng Trng.config) fun _ => rfl)
  | trngTrngConfigW v => exact .owned rfl (.write (.setTrng fun x _ => { x with config := v }) fun _ => rfl)
  | trngTrngValidR => exact .owned rfl (.read (.const _) fun _ => rfl)
  | trngTrngValidW v => exact .owned rfl (.write .id fun _ => rfl)
  | trngEhrData0R => exact .owned rfl (.read (.trng fun x => x.pool[0]) fun _ => rfl)
  | trngEhrData0W v => exact .owned rfl (.write .id fun _ => rfl)
  | trngEhrData1R => exact .owned rfl (.read (.trng fun x => x.pool[1]) fun _ => rfl)
  | trngEhrData1W v => exact .owned rfl (.write .id fun _ => rfl)
  | trngEhrData2R => exact .owned rfl (.read (.trng fun x => x.pool[2]) fun _ => rfl)
  | trngEhrData2W v => exact .owned rfl (.write .id fun _ => rfl)
  | trngEhrData3R => exact .owned rfl (.read (.trng fun x => x.pool[3]) fun _ => rfl)
  | trngEhrData3W v => exact .owned rfl (.write .id fun _ => rfl)
  | trngEhrData4R => exact .owned rfl (.read (.trng fun x => x.pool[4]) fun _ => rfl)
  | trngEhrData4W v => exact .owned rfl (.write .id fun _ => rfl)
  | trngEhrData5R => exact .owned rfl (.read (.trng fun x => x.pool[5]) fun _ => rfl)
  | trngEhrData5W v => exact .owned rfl (.write .id fun _ => rfl)
  | trngRndSourceEnableR => exact .owned rfl (.read (.trng Trng.srcEnable) fun _ => rfl)
  | trngRndSourceEnableW v =>
    have hs : Confined .trng fun s => s.setTrng { s.block.trng with srcEnable := v } :=
      .setTrng fun x _ => { x with srcEnable := v }
    exact .owned rfl (.write (.ite _ (.comp .refresh hs) hs) fun _ => rfl)
  | trngSampleCnt1R => exact .owned rfl (.read (.trng Trng.sampleCnt1) fun _ => rfl)
  | trngSampleCnt1W v => exact .owned rfl (.write (.setTrng fun x _ => { x with sampleCnt1 := v }) fun _ => rfl)
  | trngTrngDebugControlR => exact .owned rfl (.read (.trng Trng.debugControl) fun _ => rfl)
  | trngTrngDebugControlW v => exact .owned rfl (.write (.setTrng fun x _ => { x with debugControl := v }) fun _ => rfl)
  | trngTrngSwResetR => exact .owned rfl (.read (.const _) fun _ => rfl)
  | trngTrngSwResetW v => exact .owned rfl (.write (.ite _ .reinitTrng .id) fun _ => rfl)
  | trngTrngBusyR => exact .owned rfl (.read (.const _) fun _ => rfl)
  | trngTrngBusyW v => exact .owned rfl (.write .id fun _ => rfl)
  | sha256CsrR => exact .owned rfl (.read (.sha csrValue) fun _ => rfl)
  | sha256CsrW v => exact .owned rfl (.write (.setSha (·.writeCsr v)) fun _ => rfl)
  | sha256WdataR => exact .owned rfl (.read (.const _) fun _ => rfl)
  | sha256WdataW v => exact .owned rfl (.write (.setSha (·.push v)) fun _ => rfl)
  | sha256Sum0R => exact .owned rfl (.read (.sha fun x => x.h[0]) fun _ => rfl)
  | sha256Sum0W v => exact .owned rfl (.write .id fun _ => rfl)
  | sha256Sum1R => exact .owned rfl (.read (.sha fun x => x.h[1]) fun _ => rfl)
  | sha256Sum1W v => exact .owned rfl (.write .id fun _ => rfl)
  | sha256Sum2R => exact .owned rfl (.read (.sha fun x => x.h[2]) fun _ => rfl)
  | sha256Sum2W v => exact .owned rfl (.write .id fun _ => rfl)
  | sha256Sum3R => exact .owned rfl (.read (.sha fun x => x.h[3]) fun _ => rfl)
  | sha256Sum3W v => exact .owned rfl (.write .id fun _ => rfl)
  | sha256Sum4R => exact .owned rfl (.read (.sha fun x => x.h[4]) fun _ => rfl)
  | sha256Sum4W v => exact .owned rfl (.write .id fun _ => rfl)
  | sha256Sum5R => exact .owned rfl (.read (.sha fun x => x.h[5]) fun _ => rfl)
  | sha256Sum5W v => exact .owned rfl (.write .id fun _ => rfl)
  | sha256Sum6R => exact .owned rfl (.read (.sha fun x => x.h[6]) fun _ => rfl)
  | sha256Sum6W v => exact .owned rfl (.write .id fun _ => rfl)
  | sha256Sum7R => exact .owned rfl (.read (.sha fun x => x.h[7]) fun _ => rfl)
  | sha256Sum7W v => exact .owned rfl (.write .id fun _ => rfl)
  | roscCtrlR => exact .owned rfl (.read (.rosc Rosc.ctrl) fun _ => rfl)
  | roscCtrlW v => exact .owned rfl (.write (.setRosc fun x => { x with ctrl := v }) fun _ => rfl)
  | roscFreqaR => exact .owned rfl (.read (.rosc Rosc.freqa) fun _ => rfl)
  | roscFreqaW v => exact .owned rfl (.write (.setRosc fun x => { x with freqa := v }) fun _ => rfl)
  | roscFreqbR => exact .owned rfl (.read (.rosc Rosc.freqb) fun _ => rfl)
  | roscFreqbW v => exact .owned rfl (.write (.setRosc fun x => { x with freqb := v }) fun _ => rfl)
  | roscDormantR => exact .owned rfl (.read (.rosc Rosc.dormant) fun _ => rfl)
  | roscDormantW v => exact .owned rfl (.write (.setRosc fun x => { x with dormant := v }) fun _ => rfl)
  | roscDivR => exact .owned rfl (.read (.rosc Rosc.div) fun _ => rfl)
  | roscDivW v => exact .owned rfl (.write (.setRosc fun x => { x with div := v }) fun _ => rfl)
  | roscPhaseR => exact .owned rfl (.read (.rosc Rosc.phase) fun _ => rfl)
  | roscPhaseW v => exact .owned rfl (.write (.setRosc fun x => { x with phase := v }) fun _ => rfl)
  | roscStatusR => exact .owned rfl (.read (.rosc Rosc.status) fun _ => rfl)
  | roscStatusW v => exact .owned rfl (.write (.setRosc fun x => { x with status := v }) fun _ => rfl)
  | roscRandombitR => exact .owned rfl (.readAfter 1 .randombit fun _ => rfl)
  | roscRandombitW v => exact .owned rfl (.write .id fun _ => rfl)
  | resetsResetR => exact .owned rfl (.read (.resets Resets.reset) fun _ => rfl)
  | resetsResetW v => exact .resetWrite v
  | resetsUnknownR off => exact .unknownRead rfl fun _ => rfl
  | resetsUnknownW off v => exact .unknownWrite rfl fun _ => rfl
  | roscUnknownR off => exact .unknownRead rfl fun _ => rfl
  | roscUnknownW off v => exact .unknownWrite rfl fun _ => rfl
  | trngUnknownR off => exact .unknownRead rfl fun _ => rfl
  | trngUnknownW off v => exact .unknownWrite rfl fun _ => rfl
  | sha256UnknownR off => exact .unknownRead rfl fun _ => rfl
  | sha256UnknownW off v => exact .unknownWrite rfl fun _ => rfl
  | windowUnmappedR a =>
    refine .unowned (ownerOf_eq_none (acc := .read) rfl fun h => .inr ?_) fun s t h => by cases h; rfl
    exact regionOf_of_unmapped h
  | windowUnmappedW a v =>
    refine .unowned (ownerOf_eq_none (acc := .write v) rfl fun h => .inr ?_) fun s t h => by cases h; rfl
    exact regionOf_of_unmapped h
  | refuseFetch size a => exact .refused rfl fun _ => rfl
  | refuseReservedKind size a => exact .refused rfl fun _ => rfl
  | refuseReservedSize acc a => exact .refused (by simp [ownerOf, encode]) fun _ => rfl
  | refuseSubword acc half a => exact .refused (by cases half <;> simp [ownerOf, encode]) fun _ => rfl
  | refuseMisalignedOdd acc a =>
    exact .refused (ownerOf_eq_none rfl fun h => .inl (by simp_all [Instr.wf, aligned])) fun _ => rfl
  | refuseMisalignedHalf acc a =>
    exact .refused (ownerOf_eq_none rfl fun h => .inl (by simp_all [Instr.wf, aligned])) fun _ => rfl
  | outsideWindow t => exact .unowned (ownerOf_outsideWindow t) fun s u h => harnessAccess_block h
  | shareSplitKey key => exact .hostCall rfl (fun _ => rfl) (fun _ => rfl) fun _ => rfl
  | shareSplitIV iv => exact .hostCall rfl (fun _ => rfl) (fun _ => rfl) fun _ => rfl
  | shareJoinKey shares => exact .hostCall rfl (fun _ => rfl) (fun _ => rfl) fun _ => rfl

/-- Settles O45: a local instruction is confined to its owner, and one without an owner leaves the block. -/
theorem aTransactionChangesOnlyItsPeripheral : Obligations.ATransactionChangesOnlyItsPeripheral := by
  intro i s t p h hp hr
  cases Footprint.of_instr i with
  | resetWrite v => exact absurd rfl (hr v)
  | @owned _ q ho hl =>
    obtain ⟨g, hg, hc, -⟩ := hl
    cases (hg s).symm.trans h
    exact hc.keeps s p fun hpq => hp (hpq ▸ ho)
  | unowned _ hb =>
    rw [hb s t h]
    exact Block.agreeOn_refl p s.block

/-- Settles O46: a local instruction reads no more than `SameFor` compares, and neither does a RESETS write. -/
theorem aTransactionReadsOnlyItsPeripheral : Obligations.ATransactionReadsOnlyItsPeripheral := by
  intro i p s u ho hb hd hm
  have hs : SameFor p s u := ⟨hb, hd, hm⟩
  cases Footprint.of_instr i with
  | resetWrite v =>
    obtain rfl : Periph.resets = p := Option.some.inj ho
    have ⟨hb', hd', _⟩ := hs.writeReset v
    exact ⟨_, _, rfl, rfl, rfl, hd', hb'⟩
  | owned ho' hl =>
    obtain ⟨g, hg, hc, ha⟩ := hl
    obtain rfl := Option.some.inj (ho'.symm.trans ho)
    have ⟨hb', hd', _⟩ := hc.reads s u hs
    exact ⟨_, _, hg s, hg u, ha s u hs, hd', hb'⟩
  | unowned ho' _ => cases ho'.symm.trans ho

end Sys2Proof.Machine
end

section
/-! SUPPORT. Encoding undoes decoding on transactions (spec/30_encoding.md R80 to R87): a decoded transaction keeps its address. -/

namespace Sys2Proof

/-- Whatever the offset, the region's decoder gives an instruction that is written back as the access to it (R83, R86). -/
theorem encode_decodeTrng (off : BitVec 12) (acc : DataAccess) :
    encode (decodeTrng off acc) = wordAccess acc (Periph.trng.address off) := by
  cases hr : TrngReg.ofOffset off with
  | none => cases acc <;> simp only [decodeTrng, hr, encode]
  | some r =>
    obtain rfl := TrngReg.offset_of_ofOffset hr
    cases r <;> cases acc <;> rfl

theorem encode_decodeSha (off : BitVec 12) (acc : DataAccess) :
    encode (decodeSha off acc) = wordAccess acc (Periph.sha.address off) := by
  cases hr : ShaReg.ofOffset off with
  | none => cases acc <;> simp only [decodeSha, hr, encode]
  | some r =>
    obtain rfl := ShaReg.offset_of_ofOffset hr
    cases r <;> cases acc <;> rfl

theorem encode_decodeRosc (off : BitVec 12) (acc : DataAccess) :
    encode (decodeRosc off acc) = wordAccess acc (Periph.rosc.address off) := by
  cases hr : RoscReg.ofOffset off with
  | none => cases acc <;> simp only [decodeRosc, hr, encode]
  | some r =>
    obtain rfl := RoscReg.offset_of_ofOffset hr
    cases r <;> cases acc <;> rfl

theorem encode_decodeResets (off : BitVec 12) (acc : DataAccess) :
    encode (decodeResets off acc) = wordAccess acc (Periph.resets.address off) := by
  cases hr : ResetsReg.ofOffset off with
  | none => cases acc <;> simp only [decodeResets, hr, encode]
  | some r =>
    obtain rfl := ResetsReg.offset_of_ofOffset hr
    cases r
    cases acc <;> rfl

/-- An admitted access is written back at its own address, in a region or in none (R83, R225). -/
theorem encode_decodeAdmitted (acc : DataAccess) (a : Word) : encode (decodeAdmitted acc a) = wordAccess acc a := by
  cases hr : regionOf a with
  | none => cases acc <;> simp only [decodeAdmitted, hr, encode]
  | some p =>
    have ha : p.address (p.offsetOf a) = a := p.address_offsetOf ((regionOf_eq_some_iff a p).mp hr)
    cases p <;> simp only [decodeAdmitted, hr, encode_decodeTrng, encode_decodeSha, encode_decodeRosc, encode_decodeResets, ha]

/-- A read or write in the window is written back with its size code, whichever check of R226 it meets. -/
theorem encode_decodeData (acc : DataAccess) (size : BitVec 2) (a : Word) :
    encode (decodeData acc size a) = .bus ⟨.data acc, size, a⟩ := by
  unfold decodeData
  split
  · next h3 => rw [h3]; rfl
  split
  · next h3 h2 =>
    have hs : (if size = 1#2 then 1#2 else 0#2) = size := by revert size; decide
    simp only [encode, decide_eq_true_eq, hs]
  next h2 =>
  obtain rfl : size = 2#2 := not_not.mp h2
  split
  · rfl
  split
  · rfl
  exact encode_decodeAdmitted acc a

/-- Every transaction decodes to an instruction that is written back as that transaction (R80 to R84). -/
theorem encode_decode (t : Transaction) : encode (decode t) = .bus t := by
  obtain ⟨access, size, a⟩ := t
  cases hw : inWindow a with
  | false => rw [decode_outside (by exact hw)]; rfl
  | true =>
    simp only [decode, hw, if_true]
    cases access with
    | data acc => exact encode_decodeData acc size a
    | fetch => rfl
    | reserved => rfl

end Sys2Proof
end

section
/-! SUPPORT. What an instruction leaves in the SHA-256 and in the ROSC record, and the settled statements on reset, on the invariant
and on what changes these records (spec/10_state.md R28 to R44). -/

namespace Sys2Proof.Machine

/-- The SHA-256 record an instruction leaves: three instructions change it (R142, R144, R202). -/
def shaAfter (i : Instr) (s : State) : Sha :=
  match i with
  | .sha256CsrW v => s.block.sha.writeCsr v
  | .sha256WdataW v => s.block.sha.push v
  | .resetsResetW v => if released s.block.resets.reset v resetsShaBit then Sha.initial else s.block.sha
  | _ => s.block.sha

/-- The ROSC record an instruction leaves: a write of a storage register stores there (R182 to R194). -/
def roscAfter (i : Instr) (x : Rosc) : Rosc :=
  match i with
  | .roscCtrlW v => { x with ctrl := v }
  | .roscFreqaW v => { x with freqa := v }
  | .roscFreqbW v => { x with freqb := v }
  | .roscDormantW v => { x with dormant := v }
  | .roscDivW v => { x with div := v }
  | .roscPhaseW v => { x with phase := v }
  | .roscStatusW v => { x with status := v }
  | _ => x

/-- An instruction without a peripheral leaves the block (R11). -/
theorem exec_block_of_unowned {i : Instr} {s t : State} (ho : ownerOf i = none) (h : exec i s = .next t) :
    t.block = s.block := by
  cases Footprint.of_instr i with
  | resetWrite v => cases ho
  | owned ho' _ => cases ho.symm.trans ho'
  | unowned _ hb => exact hb s t h

/-- An instruction that answers a next state leaves these two records as `shaAfter` and `roscAfter` say. -/
theorem exec_sha_rosc {i : Instr} {s t : State} (h : exec i s = .next t) :
    t.block.sha = shaAfter i s ∧ t.block.rosc = roscAfter i s.block.rosc := by
  have unchanged (ho : ownerOf i = none) : t.block.sha = s.block.sha ∧ t.block.rosc = s.block.rosc := by
    simp only [exec_block_of_unowned ho h, and_self]
  cases i with
  | trngRngIcrW v => cases h; cases hv : actionBit v <;> exact ⟨rfl, rfl⟩
  | trngRndSourceEnableW v => cases h; cases hv : actionBit v <;> exact ⟨rfl, rfl⟩
  | trngTrngSwResetW v => cases h; cases hv : actionBit v <;> exact ⟨rfl, rfl⟩
  | resetsResetW v => cases h; rw [State.writeReset_eq]; exact ⟨rfl, rfl⟩
  | refuseFetch size a => cases h
  | refuseReservedKind size a => cases h
  | refuseReservedSize acc a => cases h
  | refuseSubword acc half a => cases h
  | refuseMisalignedOdd acc a => cases h
  | refuseMisalignedHalf acc a => cases h
  | outsideWindow u => exact unchanged (ownerOf_outsideWindow u)
  | shareSplitKey key => exact unchanged rfl
  | shareSplitIV iv => exact unchanged rfl
  | shareJoinKey shares => exact unchanged rfl
  | _ => cases h; exact ⟨rfl, rfl⟩

/-! The invariant of the accelerator (R32, R44): its word queue is never full, and SUM_VLD says whether it is empty. -/

/-- The part of `State.Inv` that speaks of the accelerator. -/
def Sha.QueueInv (sha : Sha) : Prop := sha.queue.length ≤ 15 ∧ sha.sumVld = sha.queue.isEmpty

theorem Sha.queueInv_initial : Sha.initial.QueueInv := ⟨Nat.zero_le _, rfl⟩

/-- A CSR write keeps the queue and SUM_VLD, or clears the one and sets the other. -/
theorem Sha.QueueInv.writeCsr {sha : Sha} (h : sha.QueueInv) (v : Word) : (sha.writeCsr v).QueueInv := by
  cases hv : actionBit v with
  | true => rw [Sha.writeCsr_start hv]; exact Sha.queueInv_initial
  | false => rw [Sha.writeCsr_store hv]; exact h

/-- A queued word clears SUM_VLD; the sixteenth empties the queue and sets it. -/
theorem Sha.QueueInv.push {sha : Sha} (h : sha.QueueInv) (v : Word) : (sha.push v).QueueInv := by
  by_cases hq : sha.queue.length = 15
  · rw [Sha.push_complete v hq]
    exact Sha.queueInv_initial
  · have hlt : sha.queue.length < 15 := lt_of_le_of_ne h.1 hq
    rw [Sha.push_partial v hq]
    exact ⟨by simpa using hlt, by simp⟩

/-- Every instruction keeps the accelerator's invariant. -/
theorem queueInv_shaAfter {s : State} (h : s.block.sha.QueueInv) (i : Instr) : (shaAfter i s).QueueInv := by
  unfold shaAfter
  split
  · exact h.writeCsr _
  · exact h.push _
  · split
    · exact Sha.queueInv_initial
    · exact h
  · exact h

/-! The canonical form of the emulator's memory. Decoded operations keep it; an instruction whose window access ran over the end of
the address space would break it. -/

/-- A window address leaves room for a word in the address space. -/
theorem inWindow_word_bound {a : Word} (h : inWindow a = true) : a.toNat + 4 ≤ Memory.space := by
  simp only [inWindow, decide_eq_true_eq] at h
  simp only [Memory.space]
  omega

/-- An access the harness serves keeps the canonical form. -/
theorem harnessAccess_mem_wf {u : Transaction} {s t : State} (h : harnessAccess u s = .next t) (hm : s.mem.wf = true) :
    t.mem.wf = true := by
  rcases harnessAccess_next h with ⟨w, rfl⟩ | ⟨bs, hb, -, rfl⟩
  · exact hm
  · exact Memory.wf_writeBytes bs hm hb

/-- A change of the memory by an instruction whose transaction, if it is one, lies in the window keeps the canonical form. -/
theorem MemChange.wf {m m' : Memory} {i : Instr} (h : MemChange m i m') (hm : m.wf = true)
    (hw : ∀ u, encode i = .bus u → inWindow u.addr = true) : m'.wf = true := by
  cases h with
  | same => exact hm
  | window a v he =>
    have ha : inWindow a = true := by
      rcases he with he | ⟨w, he⟩
      · exact hw _ he
      · exact hw _ he
    exact Memory.wf_writeWord hm v (inWindow_word_bound ha)
  | outside u bs hi hb _ => exact Memory.wf_writeBytes bs hm hb

/-- Every operation keeps the canonical form: a transaction stores at its own address, in the window or where a region serves it. -/
theorem exec_decodeOperation_mem_wf {o : Operation} {s t : State} (h : exec (decodeOperation o) s = .next t)
    (hm : s.mem.wf = true) : t.mem.wf = true := by
  obtain ⟨b, n, m, r, -, hmem, ht⟩ := exec_next_shape h
  have hmt : MemChange s.mem (decodeOperation o) t.mem := by rw [ht]; exact hmem
  cases o with
  | host c => exact hmt.wf hm (by cases c <;> simp [decodeOperation, encode])
  | bus u =>
    cases hw : inWindow u.addr with
    | true =>
      refine hmt.wf hm fun u' hu => ?_
      cases (encode_decode u).symm.trans hu
      exact hw
    | false =>
      rw [decodeOperation, decode_outside hw] at h
      exact harnessAccess_mem_wf h hm

/-- Settles O12: the memory and the accelerator keep their parts of the invariant through every decoded operation. -/
theorem everyStepKeepsTheInvariant : Obligations.EveryStepKeepsTheInvariant := by
  rintro s t hs h
  obtain ⟨hm, hq⟩ : s.mem.wf = true ∧ s.block.sha.QueueInv := hs
  cases hr : s.requests with
  | nil =>
    cases (step_of_requests_nil hr).symm.trans h
    exact ⟨hm, hq⟩
  | cons r rest =>
    rw [step_of_requests_cons hr] at h
    cases r with
    | engineFault e => cases h
    | op o =>
      refine ⟨exec_decodeOperation_mem_wf h hm, ?_⟩
      rw [(exec_sha_rosc h).1]
      exact queueInv_shaAfter hq _

/-- Settles O11: nothing is stored and no word is queued. -/
theorem theInvariantHoldsAtReset : Obligations.TheInvariantHoldsAtReset := ⟨rfl, Sha.queueInv_initial⟩

/-- Settles O10: the reset records and the first six draws, for any parameters. -/
theorem constructionLeavesTheArchitecturalResetState : Obligations.ConstructionLeavesTheArchitecturalResetState := by
  intro rosc mask regions pc
  exact ⟨rfl, rfl, rfl, rfl, rfl⟩

/-- Bit 2 of the CSR is SUM_VLD (R30, R141). -/
theorem csrValue_bit_two (sha : Sha) : (csrValue sha).getLsbD 2 = sha.sumVld := by
  simp only [csrValue, BitVec.getLsbD_setWidth, BitVec.getLsbD_append]
  simp

/-- Settles O32: bit 2 is SUM_VLD, which the invariant ties to the queue. -/
theorem sumVldReadsOneExactlyWhenNoWordIsQueued : Obligations.SumVldReadsOneExactlyWhenNoWordIsQueued := by
  intro s hs
  obtain ⟨-, -, hv⟩ := hs
  refine ⟨_, csrValue s.block.sha, rfl, rfl, ?_⟩
  rw [csrValue_bit_two, hv, List.isEmpty_iff]

/-- Settles O36: each field is set by its own arm of `roscAfter` alone. -/
theorem roscFieldsChangeOnlyByTheirOwnWrites : Obligations.RoscFieldsChangeOnlyByTheirOwnWrites := by
  intro i s t h
  rw [(exec_sha_rosc h).2]
  unfold roscAfter
  split <;> simp

/-! The history of the accelerator (R33): each change of the record is the same change of the history. -/

/-- A START begins a new history, and the control fields are no part of one (R142, R143). -/
theorem ShaHistory.matches.writeCsr {x : ShaHistory} {sha : Sha} (h : x.matches sha) (v : Word) :
    (if actionBit v then ⟨[], []⟩ else x : ShaHistory).matches (sha.writeCsr v) := by
  cases hv : actionBit v with
  | true => rw [Sha.writeCsr_start hv]; exact ⟨rfl, rfl, Nat.zero_le _⟩
  | false => rw [Sha.writeCsr_store hv]; exact h

/-- The sixteenth word completes a block, swapped as BSWAP says now; any other is queued (R144, R148). -/
theorem ShaHistory.matches.push {x : ShaHistory} {sha : Sha} (h : x.matches sha) (v : Word) :
    (x.word sha.bswap v).matches (sha.push v) := by
  obtain ⟨hh, hq, hl⟩ := h
  by_cases hc : sha.queue.length = 15
  · rw [Sha.push_complete v hc, ShaHistory.word, if_pos (hq ▸ hc)]
    refine ⟨?_, rfl, Nat.zero_le _⟩
    simp only [List.foldl_append, List.foldl_cons, List.foldl_nil, hh, hq]
    rfl
  · have hr : x.rest.length ≠ 15 := hq ▸ hc
    rw [Sha.push_partial v hc, ShaHistory.word, if_neg hr]
    exact ⟨hh, congrArg (· ++ [v]) hq, by simpa using lt_of_le_of_ne hl hr⟩

theorem ShaHistory.matches_initial : ShaHistory.matches ⟨[], []⟩ Sha.initial := ⟨rfl, rfl, Nat.zero_le _⟩

/-- Settles O28: the three instructions that change the record change the history alike. -/
theorem theHashStateFollowsTheWordsWritten : Obligations.TheHashStateFollowsTheWordsWritten := by
  refine ⟨fun rosc mask regions pc => ShaHistory.matches_initial, fun x i s t hx h => ?_⟩
  rw [(exec_sha_rosc h).1]
  cases i with
  | sha256CsrW v => exact hx.writeCsr v
  | sha256WdataW v => exact hx.push v
  | resetsResetW v =>
    change ShaHistory.matches (if released s.block.resets.reset v resetsShaBit then ⟨[], []⟩ else x)
      (if released s.block.resets.reset v resetsShaBit then Sha.initial else s.block.sha)
    split
    · exact ShaHistory.matches_initial
    · exact hx
  | _ => exact hx

end Sys2Proof.Machine
end

section
/-! SUPPORT. A stream of words through the accelerator: what several pushes leave in the record, a block at a time
(spec/41_sha256.md R142 to R148), and the settled statement on a START and the words after it. -/

namespace Sys2Proof.Machine

/-- Words that complete no block are queued, and SUM_VLD stays only where there are none. -/
theorem Sha.foldl_push_partial (ws : List Word) {sha : Sha} (h : sha.queue.length + ws.length ≤ 15) :
    ws.foldl Sha.push sha = { sha with queue := sha.queue ++ ws, sumVld := sha.sumVld && ws.isEmpty } := by
  induction ws generalizing sha with
  | nil => simp
  | cons w ws ih =>
    simp only [List.length_cons] at h
    rw [List.foldl_cons, Sha.push_partial w (by omega), ih (by simp only [List.length_append, List.length_singleton]; omega)]
    simp

/-- Sixteen words into an empty queue compress one block (R144, R148). -/
theorem Sha.foldl_push_block {ws : List Word} {sha : Sha} (hq : sha.queue = []) (hl : ws.length = 16) :
    ws.foldl Sha.push sha =
      { sha with h := compress sha.h (ws.map (msgWord sha.bswap)), queue := [], sumVld := true } := by
  obtain ⟨init, last, rfl⟩ : ∃ init last, ws = init ++ [last] :=
    ⟨_, _, (List.dropLast_append_getLast (List.ne_nil_of_length_eq_add_one hl)).symm⟩
  have hi : init.length = 15 := by simpa using hl
  rw [List.foldl_append, Sha.foldl_push_partial init (by simp [hq, hi]), List.foldl_cons, List.foldl_nil,
    Sha.push_complete last (by simp [hq, hi])]
  simp [hq]

/-- What any number of words leave in a record with an empty queue: its blocks compressed in order and the rest queued. -/
def Sha.afterStream (sha : Sha) (ws : List Word) : Sha :=
  { sha with
    h := (wordBlocks (ws.length / 16) ws).foldl (fun h b => compress h (b.map (msgWord sha.bswap))) sha.h
    queue := ws.drop (16 * (ws.length / 16))
    sumVld := decide (ws.length % 16 = 0) }

/-- A stream is its first block and the stream after it. -/
theorem Sha.afterStream_block (sha : Sha) {ws : List Word} (h : 16 ≤ ws.length) :
    sha.afterStream ws =
      Sha.afterStream { sha with h := compress sha.h ((ws.take 16).map (msgWord sha.bswap)), queue := [], sumVld := true }
        (ws.drop 16) := by
  obtain ⟨k, hk⟩ := Nat.exists_eq_add_of_le h
  have hd : (16 + k) / 16 = k / 16 + 1 := by omega
  have hm : (16 + k) % 16 = k % 16 := by omega
  simp only [Sha.afterStream, List.length_drop, List.drop_drop, hk, hd, hm, Nat.add_sub_cancel_left, wordBlocks, List.foldl_cons,
    Nat.mul_add_one, Nat.add_comm (16 * _)]

/-- The words are taken a block at a time. -/
theorem Sha.foldl_push_stream (ws : List Word) {sha : Sha} (hq : sha.queue = []) (hv : sha.sumVld = true) :
    ws.foldl Sha.push sha = sha.afterStream ws := by
  induction hn : ws.length using Nat.strong_induction_on generalizing ws sha with
  | h n ih =>
    by_cases hlt : ws.length < 16
    · rw [Sha.foldl_push_partial ws (by simp [hq]; omega)]
      simp only [Sha.afterStream, Nat.div_eq_of_lt hlt, Nat.mod_eq_of_lt hlt, wordBlocks, hq, hv]
      cases ws <;> simp
    · have hge : 16 ≤ ws.length := not_lt.mp hlt
      calc ws.foldl Sha.push sha
          = (ws.drop 16).foldl Sha.push ((ws.take 16).foldl Sha.push sha) := by
            rw [← List.foldl_append, List.take_append_drop]
        _ = sha.afterStream ws := by
            rw [Sha.foldl_push_block hq (by simpa using hge),
              ih (ws.drop 16).length (by simp only [List.length_drop]; omega) (ws.drop 16) rfl rfl rfl,
              Sha.afterStream_block sha hge]

/-- WDATA writes complete one after the other and push their words: nothing else of the block and no draw is touched (R144). -/
theorem execAll_wdata (ws : List Word) (s : State) :
    ∃ t, execAll (ws.map .sha256WdataW) s = .next t ∧
      t.block = { s.block with sha := ws.foldl Sha.push s.block.sha } ∧ t.draws = s.draws := by
  induction ws generalizing s with
  | nil => exact ⟨s, rfl, rfl, rfl⟩
  | cons w ws ih =>
    obtain ⟨t, ht, hb, hd⟩ :=
      ih ((s.setSha (s.block.sha.push w)).finishWrite (Periph.sha.address ShaReg.wdata.offset) w)
    exact ⟨t, ht, hb, hd⟩

/-- Settles O29: the START leaves an empty queue, and the words after it are taken a block at a time. -/
theorem aStreamOfWordsIsHashedBlockByBlock : Obligations.AStreamOfWordsIsHashedBlockByBlock := by
  intro s v ws hv
  obtain ⟨t, ht, hb, hd⟩ :=
    execAll_wdata ws ((s.setSha (s.block.sha.writeCsr v)).finishWrite (Periph.sha.address ShaReg.csr.offset) v)
  have hstart : s.block.sha.writeCsr v = ⟨bswapField v, dmaSizeField v, true, [], hashInit⟩ := Sha.writeCsr_start hv
  have hsha : t.block.sha = Sha.afterStream ⟨bswapField v, dmaSizeField v, true, [], hashInit⟩ ws := by
    rw [hb, ← Sha.foldl_push_stream ws rfl rfl, ← hstart]
    rfl
  refine ⟨t, ht, ?_, ?_, ?_, ?_, ?_, ?_, hd⟩
  · rw [hsha]; rfl
  · rw [hsha]; rfl
  · rw [hsha]; rfl
  · rw [hb]; rfl
  · rw [hb]; rfl
  · rw [hb]; rfl

end Sys2Proof.Machine
end

section
/-! SUPPORT. Addresses of the window and what is decoded there (spec/20_memory.md R60 to R72): the silicon's atomic aliases of the
peripherals, and the well-formedness of an admitted access. -/

namespace Sys2Proof

/-- Settles O6: the four regions are disjoint. -/
theorem anAddressFallsInAtMostOneRegion : Obligations.AnAddressFallsInAtMostOneRegion :=
  fun _ _ _ => Periph.holds_unique

/-- Two bases are at least 0x4000 bytes apart: the room of a region and its three atomic aliases (R60, R72). -/
theorem Periph.base_gap (p q : Periph) :
    p = q ∨ p.base.toNat + 0x4000 ≤ q.base.toNat ∨ q.base.toNat + 0x4000 ≤ p.base.toNat := by
  cases p <;> cases q <;> decide

/-- A peripheral's region and its atomic aliases lie in `MMIO_WINDOW` (R62, R72). -/
theorem Periph.base_add_le (p : Periph) : 0x40000000 ≤ p.base.toNat ∧ p.base.toNat + 0x4000 ≤ 0x40100000 := by
  cases p <;> decide

section
variable (p : Periph) (off : BitVec 14)

theorem Periph.toNat_base_add : (p.base + off.setWidth 32).toNat = p.base.toNat + off.toNat := by
  have hb := p.base_add_le
  have ho := off.isLt
  simp only [BitVec.toNat_add, BitVec.toNat_setWidth]
  omega

theorem Periph.inWindow_base_add : inWindow (p.base + off.setWidth 32) = true := by
  have hb := p.base_add_le
  have ho := off.isLt
  simp only [inWindow, decide_eq_true_eq, p.toNat_base_add]
  omega

/-- A word read at one of a peripheral's atomic aliases is the one outside every region (R72, R225). -/
theorem Periph.windowUnmappedR_base_add_wf (h : 0x1000 ≤ off.toNat) (h0 : off.getLsbD 0 = false) (h1 : off.getLsbD 1 = false) :
    (Instr.windowUnmappedR (p.base + off.setWidth 32)).wf = true := by
  have ho := off.isLt
  have hb := p.base_mod_four
  have ha : aligned (p.base + off.setWidth 32) = true := by
    rw [getLsbD_zero_eq, decide_eq_false_iff_not] at h0
    rw [getLsbD_one_eq, decide_eq_false_iff_not] at h1
    rw [aligned_iff, p.toNat_base_add]
    omega
  have hr : regionOf (p.base + off.setWidth 32) = none := by
    refine (regionOf_eq_none_iff _).mpr fun q => Bool.eq_false_iff.mpr fun hq => ?_
    rw [Periph.holds_iff, p.toNat_base_add, regionSize] at hq
    rcases p.base_gap q with rfl | hpq | hqp <;> omega
  simp only [Instr.wf, p.inWindow_base_add, ha, hr]
  rfl

end

/-- A word-aligned word access in the window outside every region decodes to itself (R225). -/
theorem decode_unmapped {a : Word} (h : (Instr.windowUnmappedR a).wf = true) :
    decode ⟨.data .read, 2#2, a⟩ = .windowUnmappedR a ∧ ∀ v, decode ⟨.data (.write v), 2#2, a⟩ = .windowUnmappedW a v :=
  ⟨decodeOperation_encode (i := .windowUnmappedR a) h, fun v => decodeOperation_encode (i := .windowUnmappedW a v) h⟩

/-- Settles O41: the address is in the window and in no region, so its read answers 0 and its write is discarded. -/
theorem atomicAliasesReachNoPeripheral : Obligations.AtomicAliasesReachNoPeripheral := by
  intro s p off v h h0 h1
  obtain ⟨hr, hw⟩ := decode_unmapped (p.windowUnmappedR_base_add_wf off h h0 h1)
  rw [hr, hw]
  exact ⟨⟨_, rfl, rfl, rfl⟩, ⟨_, rfl, rfl, rfl⟩⟩

/-- A word access at a word-aligned offset of a region decodes to a well-formed instruction: the region's unknown-offset one, or a
named register's (R86). -/
theorem decode_address_wf {p : Periph} {off : BitVec 12} (acc : DataAccess) (h0 : off.getLsbD 0 = false)
    (h1 : off.getLsbD 1 = false) : (decode ⟨.data acc, 2#2, p.address off⟩).wf = true := by
  cases hk : p.known off with
  | false =>
    have hu : p.unknown off = true := (p.unknown_iff off).mpr ⟨h0, h1, hk⟩
    have hd : decode ⟨.data acc, 2#2, p.address off⟩ = p.unknownInstr off acc := decodeOperation_unknown acc hu
    rw [hd]
    cases p <;> cases acc <;> exact hu
  | true =>
    cases p with
    | trng =>
      obtain ⟨r, hr⟩ := Option.isSome_iff_exists.mp hk
      obtain rfl := TrngReg.offset_of_ofOffset hr
      exact (congrArg Instr.wf (decodeOperation_trngReg r acc)).trans (by cases r <;> cases acc <;> rfl)
    | sha =>
      obtain ⟨r, hr⟩ := Option.isSome_iff_exists.mp hk
      obtain rfl := ShaReg.offset_of_ofOffset hr
      exact (congrArg Instr.wf (decodeOperation_shaReg r acc)).trans (by cases r <;> cases acc <;> rfl)
    | rosc =>
      obtain ⟨r, hr⟩ := Option.isSome_iff_exists.mp hk
      obtain rfl := RoscReg.offset_of_ofOffset hr
      exact (congrArg Instr.wf (decodeOperation_roscReg r acc)).trans (by cases r <;> cases acc <;> rfl)
    | resets =>
      obtain ⟨r, hr⟩ := Option.isSome_iff_exists.mp hk
      obtain rfl := ResetsReg.offset_of_ofOffset hr
      exact (congrArg Instr.wf (decodeOperation_resetsReg r acc)).trans (by cases r; cases acc <;> rfl)

/-- A word-aligned word access in a region decodes to a well-formed instruction. -/
theorem decode_region_wf {acc : DataAccess} {a : Word} {p : Periph} (hp : regionOf a = some p) (ha : aligned a = true) :
    (decode ⟨.data acc, 2#2, a⟩).wf = true := by
  obtain ⟨h0, h1⟩ : a.getLsbD 0 = false ∧ a.getLsbD 1 = false := by simpa [aligned] using ha
  rw [← p.address_offsetOf ((regionOf_eq_some_iff a p).mp hp)] at h0 h1 ⊢
  rw [getLsbD_zero_address] at h0
  rw [getLsbD_one_address] at h1
  exact decode_address_wf acc h0 h1

end Sys2Proof
end

section
/-! SUPPORT. Reads of the window (spec/20_memory.md R68, R69): what a read leaves, and how many draws an instruction
takes. -/

namespace Sys2Proof.Machine

/-- A choice between taking `n` draws and taking none. -/
theorem draws_ite {c : Prop} [Decidable c] {s u w : State} {n : Nat} (hu : u.draws = s.draws + n) (hw : w.draws = s.draws) :
    (if c then u else w).draws = s.draws + if c then n else 0 := by
  split
  · exact hu
  · exact hw

/-- The state a host call leaves, where the length of its input chooses between two (R245). -/
theorem eq_ite_of_next {c : Prop} [Decidable c] {u w t : State}
    (h : (if c then .next u else .next w : Host.Outcome State Fault Refusal) = .next t) : t = if c then u else w := by
  rw [← apply_ite] at h
  exact (Host.Outcome.next.inj h).symm

/-- An access the harness serves takes no draw (R227). -/
theorem harnessAccess_draws {t : Transaction} {s u : State} (h : harnessAccess t s = .next u) : u.draws = s.draws := by
  rcases harnessAccess_next h with ⟨w, rfl⟩ | ⟨bs, -, -, rfl⟩
  · rfl
  · rfl

/-- Settles O49: seven instructions can draw, and each of them but a RANDOMBIT read chooses between its draws and none. -/
theorem drawsAreConsumedOnlyWhereTheRulesSay : Obligations.DrawsAreConsumedOnlyWhereTheRulesSay := by
  intro i s t h
  cases i with
  | trngRngIcrW v => cases h; exact draws_ite (c := actionBit v) rfl rfl
  | trngRndSourceEnableW v => cases h; exact draws_ite (c := actionBit v) rfl rfl
  | trngTrngSwResetW v => cases h; exact draws_ite (c := actionBit v) rfl rfl
  | resetsResetW v => cases h; rw [State.writeReset_eq]; rfl
  | outsideWindow u => exact harnessAccess_draws h
  | shareSplitKey key => cases eq_ite_of_next h; exact draws_ite (c := key.length = 32) rfl rfl
  | shareSplitIV iv => cases eq_ite_of_next h; exact draws_ite (c := iv.length = 16) rfl rfl
  | shareJoinKey shares => cases eq_ite_of_next h; exact (apply_ite State.draws ..).trans (ite_self _)
  | _ => cases h <;> rfl

/-- A read of a peripheral answers a value and leaves the block, and takes no draw unless it is RANDOMBIT's (R68). -/
theorem exec_read_keeps {i : Instr} {p : Periph} {a : Word} {s t : State} (he : encode i = wordAccess .read a)
    (ho : ownerOf i = some p) (hi : i ≠ .roscRandombitR) (h : exec i s = .next t) :
    (∃ v, t.response = .value v) ∧ t.block = s.block ∧ t.draws = s.draws := by
  cases i with
  | roscRandombitR => exact absurd rfl hi
  | outsideWindow u => cases (ownerOf_outsideWindow u).symm.trans ho
  | refuseSubword acc half b => cases h
  | _ => cases he <;> cases h <;> exact ⟨⟨_, rfl⟩, rfl, rfl⟩

/-- A word-aligned word access in a region belongs to the region's peripheral (R11, R220). -/
theorem ownerOf_decode {acc : DataAccess} {a : Word} {p : Periph} (hp : regionOf a = some p) (ha : aligned a = true) :
    ownerOf (decode ⟨.data acc, 2#2, a⟩) = some p := by
  have hh : p.holds a = true := (regionOf_eq_some_iff a p).mp hp
  simp [ownerOf, encode_decode, decode_region_wf hp ha, Periph.inWindow_of_holds hh, ha, hp]

/-- Settles O47: outside the regions a read answers 0; in a region it leaves all that the second read may depend on. -/
theorem readsAreIdempotent : Obligations.ReadsAreIdempotent := by
  intro s a hw ha hne
  rw [← aligned_iff] at ha
  cases hr : regionOf a with
  | none =>
    rw [(decode_unmapped (by simp [Instr.wf, hw, ha, hr])).1]
    exact ⟨_, _, 0#32, rfl, rfl, rfl, rfl, rfl, rfl⟩
  | some p =>
    have he : encode (decode ⟨.data .read, 2#2, a⟩) = wordAccess .read a := encode_decode _
    have ho := ownerOf_decode (acc := .read) hr ha
    have hi : decode ⟨.data .read, 2#2, a⟩ ≠ .roscRandombitR := fun hc => by
      rw [hc] at he
      cases he
      exact hne rfl
    generalize decode ⟨.data .read, 2#2, a⟩ = i at he ho hi ⊢
    obtain ⟨t, -, ht, -⟩ := aTransactionReadsOnlyItsPeripheral i p s s ho (Block.agreeOn_refl p _) rfl rfl
    obtain ⟨⟨v, hv⟩, hb, hd⟩ := exec_read_keeps he ho hi ht
    have hm := (noInstructionWritesParametersOrRequests i s t ht).1
    obtain ⟨t', u, ht', hu, hvu, -⟩ :=
      aTransactionReadsOnlyItsPeripheral i p s t ho (hb ▸ Block.agreeOn_refl p _) hd.symm hm.symm
    cases ht.symm.trans ht'
    exact ⟨t, u, v, ht, hu, hv, hvu ▸ hv, hb, hd⟩

end Sys2Proof.Machine
end

section
/-! SUPPORT. Byte strings stored in the emulator's memory, read byte by byte (spec/20_memory.md R63), and the settled statement on
storage writes. -/

namespace Sys2Proof.Machine

/-- Byte `j` of bytes stored. -/
theorem Memory.read_writeBytes_at (bs : List Byte) (m : Memory) (a : Nat) {j : Nat} (h : j < bs.length) :
    (m.writeBytes a bs).read (a + j) = bs.getD j 0 := by
  have hj := Memory.getD_readBytes (m.writeBytes a bs) a bs.length j
  rw [if_pos h, Memory.readBytes_writeBytes] at hj
  exact hj.symm

/-- Bytes outside those stored are left alone. -/
theorem Memory.read_writeBytes_outside (bs : List Byte) (m : Memory) {a x : Nat} (h : x < a ∨ a + bs.length ≤ x) :
    (m.writeBytes a bs).read x = m.read x := by
  rcases h with h | h
  · exact Memory.read_writeBytes_below bs m h
  · exact Memory.read_writeBytes_above bs m h

/-- Storing the same bytes twice is storing them once, where the memory is in canonical form. -/
theorem Memory.writeBytes_twice (bs : List Byte) {m : Memory} (hm : m.wf = true) {a : Nat} (ha : a + bs.length ≤ Memory.space) :
    (m.writeBytes a bs).writeBytes a bs = m.writeBytes a bs := by
  have h1 := Memory.wf_writeBytes bs hm ha
  refine Memory.eq_of_read_eq (Memory.wf_writeBytes bs h1 ha) h1 fun x => ?_
  by_cases hx : x < a ∨ a + bs.length ≤ x
  · exact Memory.read_writeBytes_outside bs _ hx
  · obtain ⟨j, rfl⟩ := Nat.exists_eq_add_of_le (not_lt.mp fun h => hx (.inl h))
    have hj : j < bs.length := by omega
    rw [Memory.read_writeBytes_at bs _ a hj, Memory.read_writeBytes_at bs m a hj]

/-- A register write whose effect on the block does not depend on memory or answer, and is none the second time, is idempotent. -/
theorem storageWrite_idempotent {i : Instr} {p : Periph} {off : BitVec 12} {v : Word} {b : Block} {s : State}
    (hm : s.mem.wf = true) (h1 : exec i s = writeRegister p off v { s with block := b })
    (h2 : ∀ m r, exec i { s with block := b, mem := m, response := r } =
      writeRegister p off v { s with block := b, mem := m, response := r }) :
    ∃ t, exec i s = .next t ∧ exec i t = .next t := by
  refine ⟨_, h1, (h2 _ _).trans ?_⟩
  have ha : (p.address off).toNat + 4 ≤ Memory.space := inWindow_word_bound (inWindow_address p off)
  have hw : (s.mem.writeWord (p.address off) v).writeWord (p.address off) v = s.mem.writeWord (p.address off) v :=
    Memory.writeBytes_twice (wordBytes v) hm ha
  simp only [writeRegister, State.finishWrite, hw]

/-- Settles O48: each of the eleven stores into one field, and stores there again. -/
theorem storageWritesAreIdempotent : Obligations.StorageWritesAreIdempotent := by
  intro s v i hm hi
  simp only [List.mem_cons, List.not_mem_nil, or_false] at hi
  rcases hi with rfl | rfl | rfl | rfl | rfl | rfl | rfl | rfl | rfl | rfl | rfl <;>
    exact storageWrite_idempotent hm rfl fun _ _ => rfl

end Sys2Proof.Machine
end

section
/-! SUPPORT. The service of the harness's regions, access by access (spec/44_dispatcher.md R227, R265), and what a transaction in the
window leaves of the memory outside it (spec/20_memory.md R73). -/

namespace Sys2Proof.Machine

section Served
variable {s : State} {t : Transaction} {n : Nat} (hs : s.servedBytes t = some n)
include hs

/-- A served read and a served fetch answer the bytes. -/
theorem harnessAccess_load (ht : t.access = .data .read ∨ t.access = .fetch) :
    harnessAccess t s = .next (s.answer (.value (leValue (s.mem.readBytes t.addr.toNat n)))) := by
  rcases ht with ht | ht <;> simp only [harnessAccess, hs, ht]

/-- A served write stores the low bytes of its value. -/
theorem harnessAccess_store {v : Word} (ht : t.access = .data (.write v)) :
    harnessAccess t s = .next { s with mem := s.mem.writeBytes t.addr.toNat ((wordBytes v).take n), response := .done } := by
  simp only [harnessAccess, hs, ht]

/-- A served access completes. -/
theorem harnessAccess_served : ∃ u, harnessAccess t s = .next u := by
  have hr := (State.servedBytes_eq_some_iff.mp hs).1
  cases ha : t.access with
  | data acc =>
    cases acc with
    | read => exact ⟨_, harnessAccess_load hs (.inl ha)⟩
    | write v => exact ⟨_, harnessAccess_store hs ha⟩
  | fetch => exact ⟨_, harnessAccess_load hs (.inr ha)⟩
  | reserved => exact absurd ha hr

/-- An access the harness serves raises no callback, so there is no reply (R227, R268). -/
theorem onAccess_served (hw : inWindow t.addr = false) : onAccess t s = none := by
  obtain ⟨u, hu⟩ := harnessAccess_served hs
  have he : exec (decode t) s = .next u := by rw [decode_outside hw]; exact hu
  simp [onAccess, he, trapReply, hw]

end Served

/-- An access of one, two or four bytes that one region holds whole, clear of the window, is served. -/
theorem servedBytes_of_region {s : State} {size : BitVec 2} {n : Nat} {a : Word} {r : Config.Region}
    (hn : (size = 0#2 ∧ n = 1) ∨ (size = 1#2 ∧ n = 2) ∨ (size = 2#2 ∧ n = 4)) (hr : r ∈ s.regions)
    (hh : regionHolds r a.toNat n = true) {access : BusAccess} (ha : access ≠ .reserved) :
    s.servedBytes ⟨access, size, a⟩ = some n := by
  refine State.servedBytes_eq_some_iff.mpr ⟨ha, ?_, List.any_eq_true.mpr ⟨r, hr, hh⟩⟩
  rcases hn with ⟨rfl, rfl⟩ | ⟨rfl, rfl⟩ | ⟨rfl, rfl⟩ <;> rfl

/-- Byte `j` of up to four bytes read little-endian (R63). -/
theorem extractLsb'_leValue (bs : List Byte) {j : Nat} (h : j < 4) : (leValue bs).extractLsb' (8 * j) 8 = bs.getD j 0 := by
  unfold leValue le32
  interval_cases j
  · exact BitVec.extractLsb'_append_eq_right
  · rw [BitVec.extractLsb'_append_eq_of_le (by decide)]
    exact BitVec.extractLsb'_append_eq_right
  · rw [BitVec.extractLsb'_append_eq_of_le (by decide), BitVec.extractLsb'_append_eq_of_le (by decide)]
    exact BitVec.extractLsb'_append_eq_right
  · rw [BitVec.extractLsb'_append_eq_of_le (by decide), BitVec.extractLsb'_append_eq_of_le (by decide)]
    exact BitVec.extractLsb'_append_eq_left

/-- Byte `j` of the low `n` bytes of a word (R63). -/
theorem getD_take_wordBytes (v : Word) {n j : Nat} (hj : j < n) (hn : n ≤ 4) :
    ((wordBytes v).take n).getD j 0 = v.extractLsb' (8 * j) 8 := by
  have h4 : j < 4 := by omega
  rw [List.getD_eq_getElem?_getD, List.getElem?_take_of_lt hj]
  interval_cases j <;> rfl

/-- Settles O51: one region serves the access, so a load answers its bytes and a store writes them. -/
theorem mappedAccessesAreServedFromMemory : Obligations.MappedAccessesAreServedFromMemory := by
  intro s size n a v r hn hw hr hlo hhi hsp hclear
  have hh : regionHolds r a.toNat n = true := by
    simp only [regionHolds, clearOfWindow, Bool.and_eq_true, decide_eq_true_eq]
    exact ⟨⟨hlo, hhi, hsp⟩, hclear⟩
  have hs {access : BusAccess} (ha : access ≠ .reserved) : s.servedBytes ⟨access, size, a⟩ = some n :=
    servedBytes_of_region hn hr hh ha
  have hn4 : n ≤ 4 := by omega
  have hlen : ((wordBytes v).take n).length = n := by simpa using hn4
  refine ⟨fun access ha => ?reply, fun access ha => ?load, _, harnessAccess_store (hs (by simp)) rfl, fun j hj => ?stored,
    fun x hx => ?kept⟩
  case reply => exact onAccess_served (hs (by rintro rfl; simp at ha)) hw
  case load =>
    have ht : access = .data .read ∨ access = .fetch := by simpa using ha
    refine ⟨_, harnessAccess_load (hs (by rintro rfl; simp at ha)) ht, fun j hj => ?_⟩
    rw [extractLsb'_leValue _ hj]
    exact Memory.getD_readBytes ..
  case stored => rw [Memory.read_writeBytes_at _ _ _ (by rwa [hlen]), getD_take_wordBytes v hj hn4]
  case kept => exact Memory.read_writeBytes_outside _ _ (by rwa [hlen])

/-! What a transaction in the window leaves of a fetch (R73). -/

/-- A transaction in the window that completes is word-aligned (R65, R226). -/
theorem aligned_of_exec_decode {t : Transaction} {s u : State} (hw : inWindow t.addr = true) (h : exec (decode t) s = .next u) :
    aligned t.addr = true := by
  simp only [decode, hw, if_true] at h
  cases ha : t.access with
  | fetch => rw [ha] at h; cases h
  | reserved => rw [ha] at h; cases h
  | data acc =>
    simp only [ha, decodeData] at h
    split at h
    · cases h
    split at h
    · cases h
    split at h
    · cases h
    split at h
    · cases h
    next h0 h1 => rw [aligned, Bool.eq_false_iff.mpr h0, Bool.eq_false_iff.mpr h1]; rfl

/-- A transaction in the window writes no byte outside it: its word ends where the window does, at the latest. -/
theorem read_outside_of_exec_decode {t : Transaction} {s u : State} (hw : inWindow t.addr = true)
    (h : exec (decode t) s = .next u) {x : Nat} (hx : x < 0x40000000 ∨ 0x40100000 ≤ x) : u.mem.read x = s.mem.read x := by
  have ha := (aligned_iff _).mp (aligned_of_exec_decode hw h)
  simp only [inWindow, decide_eq_true_eq] at hw
  obtain ⟨b, n, m, r, -, hm, rfl⟩ := exec_next_shape h
  cases hm with
  | same => rfl
  | window a v he =>
    obtain rfl : t.addr = a := by
      rw [encode_decode] at he
      rcases he with he | ⟨w, he⟩ <;> cases he <;> rfl
    exact Memory.read_writeWord_other _ v (by omega)
  | outside t' bs hi _ hc =>
    obtain rfl : t = t' := by
      have he := encode_decode t
      rw [hi] at he
      cases he
      rfl
    exact Memory.read_writeBytes_outside bs _ (by omega)

/-- The harness serves the same transactions wherever the regions are the same. -/
theorem servedBytes_congr {s u : State} (hr : u.regions = s.regions) (t : Transaction) : u.servedBytes t = s.servedBytes t := by
  have hm : u.maps = s.maps := by
    funext a n
    simp only [State.maps, hr]
  simp only [State.servedBytes, hm]

/-- A fetch the harness answers depends on the regions and on the bytes outside the window, and one it stops on also on the program
counter. -/
theorem harnessAccess_fetch_congr {f : Transaction} {s u : State} (hf : f.access = .fetch) (hr : u.regions = s.regions)
    (hp : u.pc = s.pc) (hm : ∀ x, x < 0x40000000 ∨ 0x40100000 ≤ x → u.mem.read x = s.mem.read x) :
    (∀ s', harnessAccess f s = .next s' → ∃ u', harnessAccess f u = .next u' ∧ u'.response = s'.response) ∧
    ∀ r, harnessAccess f s = .fault r → harnessAccess f u = .fault r := by
  have hu := servedBytes_congr hr f
  cases hn : s.servedBytes f with
  | none =>
    have h1 := harnessAccess_unserved hn
    have h2 := harnessAccess_unserved (hu.trans hn)
    rw [hp] at h2
    refine ⟨fun s' h => ?_, fun r h => h2.trans (h1.symm.trans h)⟩
    cases h1.symm.trans h
  | some n =>
    have h1 := harnessAccess_load hn (.inr hf)
    have h2 := harnessAccess_load (hu.trans hn) (.inr hf)
    obtain ⟨-, hc⟩ := State.maps_bounds (State.servedBytes_eq_some_iff.mp hn).2.2
    rw [Memory.readBytes_congr fun x _ _ => hm x (by omega)] at h2
    refine ⟨fun s' h => ⟨_, h2, ?_⟩, fun r h => ?_⟩
    · cases h1.symm.trans h
      rfl
    · cases h1.symm.trans h

/-- Settles O59: the transaction keeps the regions, the program counter and every byte outside the window. -/
theorem noWindowTransactionChangesAFetchedInstruction : Obligations.NoWindowTransactionChangesAFetchedInstruction := by
  intro t f s u hw hf h
  obtain ⟨-, hr, hp, -⟩ := noInstructionWritesParametersOrRequests _ s u h
  cases hfw : inWindow f.addr with
  | true =>
    have hd : decode f = .refuseFetch f.size f.addr := by simp only [decode, hfw, hf, if_true]
    rw [hd]
    exact ⟨fun _ => rfl, nofun, nofun⟩
  | false =>
    rw [decode_outside hfw]
    exact ⟨nofun, harnessAccess_fetch_congr hf hr hp fun x => read_outside_of_exec_decode hw h⟩

end Sys2Proof.Machine
end

section
/-! SUPPORT. The settled statements on encoding and decoding (spec/30_encoding.md R80 to R87): well-formedness of what the decoder
gives, and the byte form of a transaction. -/

namespace Sys2Proof

/-- A read or write in the window decodes to a well-formed instruction: each row's condition is the check of R226 that led to it. -/
theorem decodeData_wf {acc : DataAccess} {size : BitVec 2} {a : Word} (hw : inWindow a = true) :
    (decodeData acc size a).wf = true := by
  unfold decodeData
  split
  · exact hw
  split
  · exact hw
  split
  next h0 => simp only [Instr.wf, hw, h0, Bool.and_self]
  next h0 =>
  split
  next h1 => simp only [Instr.wf, hw, Bool.eq_false_iff.mpr h0, h1, Bool.not_false, Bool.and_self]
  next h1 =>
  have ha : aligned a = true := by rw [aligned, Bool.eq_false_iff.mpr h0, Bool.eq_false_iff.mpr h1]; rfl
  cases hr : regionOf a with
  | none => cases acc <;> simp only [decodeAdmitted, hr, Instr.wf, hw, ha, Option.isNone_none, Bool.and_self]
  | some p =>
    rw [← decode_admitted hw (Bool.eq_false_iff.mpr h0) (Bool.eq_false_iff.mpr h1)]
    exact decode_region_wf hr ha

/-- Every transaction decodes to a well-formed instruction. -/
theorem decode_wf (t : Transaction) : (decode t).wf = true := by
  obtain ⟨access, size, a⟩ := t
  cases hw : inWindow a with
  | false => rw [decode_outside (by exact hw)]; simp only [Instr.wf, hw, Bool.not_false]
  | true =>
    simp only [decode, hw, if_true]
    cases access with
    | data acc => exact decodeData_wf hw
    | fetch => exact hw
    | reserved => exact hw

/-- Settles O2: a named register's access computes, and the other rows pass the checks their well-formedness names. -/
theorem decodingUndoesEncoding : Obligations.DecodingUndoesEncoding := fun _ => decodeOperation_encode

/-- Settles O3: a transaction keeps kind, size, address and value through each check of the decoder. -/
theorem encodingUndoesDecoding : Obligations.EncodingUndoesDecoding := by
  intro o
  cases o with
  | bus t => exact ⟨decode_wf t, encode_decode t⟩
  | host c => cases c <;> exact ⟨rfl, rfl⟩

/-- The fifth byte of a transaction holds the kind code above the size code, and four zero bits above both. -/
theorem fields_of_headerByte : ∀ kind size : BitVec 2, (0#4 ++ kind ++ size).extractLsb' 4 4 = 0#4 ∧
    (0#4 ++ kind ++ size).extractLsb' 2 2 = kind ∧ (0#4 ++ kind ++ size).extractLsb' 0 2 = size := by decide

/-- The bytes of a transaction are read back as it, and the bytes after them are left. -/
theorem Transaction.ofBytes_toBytes (t : Transaction) (rest : List Byte) : ofBytes (t.toBytes ++ rest) = .ok (t, rest) := by
  obtain ⟨access, size, a⟩ := t
  obtain ⟨hz, hk, hs⟩ := fields_of_headerByte (Transaction.kindCode ⟨access, size, a⟩) size
  simp only [toBytes, Machine.wordBytes, List.cons_append, List.nil_append, ofBytes, hz, hk, hs, le32_wordBytes]
  cases access with
  | data acc => cases acc <;> simp [kindCode]
  | fetch => rfl
  | reserved => rfl

/-- Settles O4: reading the bytes back gives the transaction, which is then decoded. -/
theorem transactionBytesDecodeToTheInstruction : Obligations.TransactionBytesDecodeToTheInstruction := by
  intro t rest
  rw [decodeBytes, t.ofBytes_toBytes]

/-- Settles O1: each word is read and decoded by computation. -/
theorem sampleKeysDecodeToTheirRows : Obligations.SampleKeysDecodeToTheirRows :=
  ⟨rfl, rfl, rfl, rfl, rfl, rfl, rfl, rfl, rfl, rfl, rfl, rfl, rfl⟩

end Sys2Proof
end

section
/-! SUPPORT. The stop of an access outside the window that no region serves (spec/44_dispatcher.md R227, spec/60_exceptions.md
R261, R265). -/

namespace Sys2Proof.Machine

/-- An access outside the window that no region serves faults, and the reply is the unmapped-access trap's (R227, R230). -/
theorem exec_decode_unserved {s : State} {t : Transaction} (hw : inWindow t.addr = false) (hn : s.servedBytes t = none) :
    exec (decode t) s = .fault (.unmappedAccess t.addr s.pc) ∧ onAccess t s = some .fault := by
  have he : exec (decode t) s = .fault (.unmappedAccess t.addr s.pc) := by
    rw [decode_outside hw]
    exact harnessAccess_unserved hn
  exact ⟨he, by rw [onAccess, he]; rfl⟩

/-- No region serves a reserved kind or size code (R80). -/
theorem servedBytes_of_reservedCode {s : State} {t : Transaction} (h : t.access = .reserved ∨ t.size = 3#2) :
    s.servedBytes t = none := by
  refine Option.eq_none_iff_forall_ne_some.mpr fun n hn => ?_
  obtain ⟨ha, hb, -⟩ := State.servedBytes_eq_some_iff.mp hn
  rcases h with h | h
  · exact ha h
  · rw [h] at hb
    cases hb

/-- Settles O52: no region serves the access, so it is an unmapped one. -/
theorem reservedCodesOutsideTheWindowFault : Obligations.ReservedCodesOutsideTheWindowFault :=
  fun _ _ hw h => exec_decode_unserved hw (servedBytes_of_reservedCode h)

end Sys2Proof.Machine
end

section
/-! SUPPORT. The decoder and the rows of spec/opcode_table.json (spec/30_encoding.md R81, R84): rows of one priority exclude each
other, and a row of higher priority is decoded only at addresses that no overlapping row of lower priority holds. -/

namespace Sys2Proof.Laws.RowMatch

/-- Every well-formed instruction that is a transaction is selected by a row of its own mnemonic. -/
theorem statement_of_instr : ∀ i : Instr, Statement i
  | .trngRngImrR => trngRngImrR
  | .trngRngImrW v => trngRngImrW v
  | .trngRngIsrR => trngRngIsrR
  | .trngRngIsrW v => trngRngIsrW v
  | .trngRngIcrR => trngRngIcrR
  | .trngRngIcrW v => trngRngIcrW v
  | .trngTrngConfigR => trngTrngConfigR
  | .trngTrngConfigW v => trngTrngConfigW v
  | .trngTrngValidR => trngTrngValidR
  | .trngTrngValidW v => trngTrngValidW v
  | .trngEhrData0R => trngEhrData0R
  | .trngEhrData0W v => trngEhrData0W v
  | .trngEhrData1R => trngEhrData1R
  | .trngEhrData1W v => trngEhrData1W v
  | .trngEhrData2R => trngEhrData2R
  | .trngEhrData2W v => trngEhrData2W v
  | .trngEhrData3R => trngEhrData3R
  | .trngEhrData3W v => trngEhrData3W v
  | .trngEhrData4R => trngEhrData4R
  | .trngEhrData4W v => trngEhrData4W v
  | .trngEhrData5R => trngEhrData5R
  | .trngEhrData5W v => trngEhrData5W v
  | .trngRndSourceEnableR => trngRndSourceEnableR
  | .trngRndSourceEnableW v => trngRndSourceEnableW v
  | .trngSampleCnt1R => trngSampleCnt1R
  | .trngSampleCnt1W v => trngSampleCnt1W v
  | .trngTrngDebugControlR => trngTrngDebugControlR
  | .trngTrngDebugControlW v => trngTrngDebugControlW v
  | .trngTrngSwResetR => trngTrngSwResetR
  | .trngTrngSwResetW v => trngTrngSwResetW v
  | .trngTrngBusyR => trngTrngBusyR
  | .trngTrngBusyW v => trngTrngBusyW v
  | .sha256CsrR => sha256CsrR
  | .sha256CsrW v => sha256CsrW v
  | .sha256WdataR => sha256WdataR
  | .sha256WdataW v => sha256WdataW v
  | .sha256Sum0R => sha256Sum0R
  | .sha256Sum0W v => sha256Sum0W v
  | .sha256Sum1R => sha256Sum1R
  | .sha256Sum1W v => sha256Sum1W v
  | .sha256Sum2R => sha256Sum2R
  | .sha256Sum2W v => sha256Sum2W v
  | .sha256Sum3R => sha256Sum3R
  | .sha256Sum3W v => sha256Sum3W v
  | .sha256Sum4R => sha256Sum4R
  | .sha256Sum4W v => sha256Sum4W v
  | .sha256Sum5R => sha256Sum5R
  | .sha256Sum5W v => sha256Sum5W v
  | .sha256Sum6R => sha256Sum6R
  | .sha256Sum6W v => sha256Sum6W v
  | .sha256Sum7R => sha256Sum7R
  | .sha256Sum7W v => sha256Sum7W v
  | .roscCtrlR => roscCtrlR
  | .roscCtrlW v => roscCtrlW v
  | .roscFreqaR => roscFreqaR
  | .roscFreqaW v => roscFreqaW v
  | .roscFreqbR => roscFreqbR
  | .roscFreqbW v => roscFreqbW v
  | .roscDormantR => roscDormantR
  | .roscDormantW v => roscDormantW v
  | .roscDivR => roscDivR
  | .roscDivW v => roscDivW v
  | .roscPhaseR => roscPhaseR
  | .roscPhaseW v => roscPhaseW v
  | .roscStatusR => roscStatusR
  | .roscStatusW v => roscStatusW v
  | .roscRandombitR => roscRandombitR
  | .roscRandombitW v => roscRandombitW v
  | .resetsResetR => resetsResetR
  | .resetsResetW v => resetsResetW v
  | .resetsUnknownR off => resetsUnknownR off
  | .resetsUnknownW off v => resetsUnknownW off v
  | .roscUnknownR off => roscUnknownR off
  | .roscUnknownW off v => roscUnknownW off v
  | .trngUnknownR off => trngUnknownR off
  | .trngUnknownW off v => trngUnknownW off v
  | .sha256UnknownR off => sha256UnknownR off
  | .sha256UnknownW off v => sha256UnknownW off v
  | .windowUnmappedR a => windowUnmappedR a
  | .windowUnmappedW a v => windowUnmappedW a v
  | .refuseFetch size a => refuseFetch size a
  | .refuseReservedKind size a => refuseReservedKind size a
  | .refuseReservedSize acc a => refuseReservedSize acc a
  | .refuseSubword acc half a => refuseSubword acc half a
  | .refuseMisalignedOdd acc a => refuseMisalignedOdd acc a
  | .refuseMisalignedHalf acc a => refuseMisalignedHalf acc a
  | .outsideWindow t => outsideWindow t
  | .shareSplitKey key => shareSplitKey key
  | .shareSplitIV iv => shareSplitIV iv
  | .shareJoinKey shares => shareJoinKey shares

end Sys2Proof.Laws.RowMatch

namespace Sys2Proof

/-! Rows that can select one key. -/

/-- Two rows agree on the key bits that both masks compare, so that one key can meet both. -/
abbrev Row.Overlaps (q r : Row) : Prop := q.pattern &&& r.mask = r.pattern &&& q.mask

theorem Row.overlaps_of_selects {q r : Row} {key : BitVec 36} (hq : q.selects key = true) (hr : r.selects key = true) :
    q.Overlaps r := by
  simp only [Row.selects, beq_iff_eq] at hq hr
  rw [Row.Overlaps, ← hq, ← hr, BitVec.and_assoc, BitVec.and_comm q.mask, BitVec.and_assoc]

/-- Two rows that share no key if they are of one priority. -/
abbrev Row.TieFree (q r : Row) : Prop := q.priority = r.priority → ¬ q.Overlaps r

/-- No two rows of one priority overlap (R84). -/
theorem opcodeRows_tieFree : opcodeRows.Pairwise Row.TieFree := by decide

/-- Of the rows of one priority at most one selects a key (R84). -/
theorem Row.eq_of_selects {q r : Row} {key : BitVec 36} (hq : q ∈ opcodeRows) (hr : r ∈ opcodeRows)
    (hsq : q.selects key = true) (hsr : r.selects key = true) (hp : q.priority = r.priority) : q = r := by
  have hsymm : Std.Symm Row.TieFree := ⟨fun _ _ h hp ho => h hp.symm ho.symm⟩
  by_contra hne
  have htf : q.TieFree r := opcodeRows_tieFree.forall hq hr hne
  exact htf hp (Row.overlaps_of_selects hsq hsr)

/-! What a row says of the address. -/

/-- The part of a row's mask that compares the address. -/
abbrev Row.addrMask (r : Row) : Word := r.mask.setWidth 32

/-- The address of a row's pattern. -/
abbrev Row.addrPattern (r : Row) : Word := r.pattern.setWidth 32

section
variable {q : Row} {t : Transaction} (hs : q.selects t.key = true)
include hs

theorem Row.addr_and_addrMask : t.addr &&& q.addrMask = q.addrPattern := by
  simp only [Row.selects, beq_iff_eq] at hs
  have hk : t.key.setWidth 32 = t.addr := BitVec.setWidth_append_eq_right
  rw [Row.addrPattern, ← hs, BitVec.setWidth_and, hk]

/-- A transaction's address agrees with the row's pattern on every mask the row's mask covers. -/
theorem Row.addr_and {m : Word} (hm : q.addrMask &&& m = m) : t.addr &&& m = q.addrPattern &&& m :=
  calc t.addr &&& m = t.addr &&& (q.addrMask &&& m) := by rw [hm]
    _ = q.addrPattern &&& m := by rw [← BitVec.and_assoc, Row.addr_and_addrMask hs]

end

/-- The priority of the rows an address is left to: 3 outside the window, 2 in the window outside every region, 1 at an unknown
offset of a region, 0 at a named register (R62, R86, R225). -/
def addressPriority (a : Word) : Nat :=
  if inWindow a then
    match regionOf a with
    | none => 2
    | some p => if p.known (p.offsetOf a) then 0 else 1
  else 3

theorem addressPriority_outside {a : Word} (h : inWindow a = false) : addressPriority a = 3 := by
  simp only [addressPriority, h, Bool.false_eq_true, if_false]

theorem addressPriority_unmapped {a : Word} (h : (inWindow a && aligned a && (regionOf a).isNone) = true) :
    addressPriority a = 2 := by
  have hw : inWindow a = true := by
    simp only [Bool.and_eq_true] at h
    exact h.1.1
  simp only [addressPriority, hw, regionOf_of_unmapped h, if_true]

theorem addressPriority_unknown {p : Periph} {off : BitVec 12} (h : p.unknown off = true) :
    addressPriority (p.address off) = 1 := by
  obtain ⟨-, -, hk⟩ := (p.unknown_iff off).mp h
  simp [addressPriority, hk]

theorem addressPriority_lt_three {a : Word} (h : inWindow a = true) : addressPriority a < 3 := by
  unfold addressPriority
  split
  · split
    · decide
    · split <;> decide
  · contradiction

theorem addressPriority_lt_two {p : Periph} {a : Word} (h : p.holds a = true) : addressPriority a < 2 := by
  simp only [addressPriority, Periph.inWindow_of_holds h, (regionOf_eq_some_iff a p).mpr h, if_true]
  split <;> decide

/-! What the rows of the table compare. -/

/-- Every row but the last compares the window's address bits (R62). -/
theorem opcodeRows_window : ∀ q ∈ opcodeRows, q.priority < 3 →
    q.addrMask &&& 0xFFF00000#32 = 0xFFF00000#32 ∧ q.addrPattern &&& 0xFFF00000#32 = 0x40000000#32 := by decide

theorem opcodeRows_priority_le : ∀ r ∈ opcodeRows, r.priority ≤ 3 := by decide

/-- The rows of a priority above 0 are among those that name no register. -/
theorem mem_otherRows : ∀ r ∈ opcodeRows, 0 < r.priority → r ∈ otherRows := by decide

/-- A row that goes before one of the rest of the window and overlaps it compares the address bits of a region (R60). -/
theorem opcodeRows_region : ∀ q ∈ opcodeRows, q.priority < 2 → ∀ r ∈ otherRows, r.priority = 2 → q.Overlaps r →
    q.addrMask &&& 0xFFFFF003#32 = 0xFFFFF003#32 ∧ aligned q.addrPattern = true ∧ (regionOf q.addrPattern).isSome = true := by
  decide

/-- A row that goes before one of the unknown offsets and overlaps it compares the whole address, a named register's (R86). -/
theorem opcodeRows_register : ∀ q ∈ opcodeRows, q.priority < 1 → ∀ r ∈ otherRows, r.priority = 1 → q.Overlaps r →
    q.addrMask = BitVec.allOnes 32 ∧ addressPriority q.addrPattern = 0 := by decide

/-- Where a row goes before another that selects the same transaction, the address is not left to the other's priority: it lies in
the window, in a region or at a named register. -/
theorem addressPriority_lt {q r : Row} {t : Transaction} (hq : q ∈ opcodeRows) (hr : r ∈ opcodeRows)
    (hsq : q.selects t.key = true) (hsr : r.selects t.key = true) (hp : q.priority < r.priority) :
    addressPriority t.addr < r.priority := by
  have ho : q.Overlaps r := Row.overlaps_of_selects hsq hsr
  have hr' : r ∈ otherRows := mem_otherRows r hr (by omega)
  have hle : r.priority ≤ 3 := opcodeRows_priority_le r hr
  obtain h3 | h2 | h1 : r.priority = 3 ∨ r.priority = 2 ∨ r.priority = 1 := by omega
  · obtain ⟨hm, hpat⟩ := opcodeRows_window q hq (by omega)
    have hw : inWindow t.addr = true := (windowMask_iff _).mp ((Row.addr_and hsq hm).trans hpat)
    rw [h3]
    exact addressPriority_lt_three hw
  · obtain ⟨hm, hal, hreg⟩ := opcodeRows_region q hq (by omega) r hr' h2 ho
    obtain ⟨p, hreg⟩ := Option.isSome_iff_exists.mp hreg
    have hpat : q.addrPattern &&& 0xFFFFF003#32 = p.base :=
      (regionMask_iff p _).mpr ⟨(regionOf_eq_some_iff _ p).mp hreg, hal⟩
    have hh : p.holds t.addr = true := ((regionMask_iff p _).mp ((Row.addr_and hsq hm).trans hpat)).1
    rw [h2]
    exact addressPriority_lt_two hh
  · obtain ⟨hm, hreg⟩ := opcodeRows_register q hq (by omega) r hr' h1 ho
    have ha : t.addr = q.addrPattern := by rw [← Row.addr_and_addrMask hsq, hm, BitVec.and_allOnes]
    rw [ha, hreg, h1]
    decide

/-! The priority of the row an instruction names. -/

/-- The priority of the row that gives the instruction: 3 outside the window, 2 for the rest of the window, 1 for an unknown
offset, 0 for a named register or a refusal. -/
def Instr.rowPriority : Instr → Nat
  | .outsideWindow _ => 3
  | .windowUnmappedR _ => 2
  | .windowUnmappedW _ _ => 2
  | .trngUnknownR _ => 1
  | .trngUnknownW _ _ => 1
  | .sha256UnknownR _ => 1
  | .sha256UnknownW _ _ => 1
  | .roscUnknownR _ => 1
  | .roscUnknownW _ _ => 1
  | .resetsUnknownR _ => 1
  | .resetsUnknownW _ _ => 1
  | _ => 0

/-- The priority of a mnemonic's row: 0 for those `otherRows` does not list. -/
def priorityOfMnemonic (m : String) : Nat := ((otherRows.find? fun r => decide (r.mnemonic = m)).map Row.priority).getD 0

theorem priorityOfMnemonic_row : ∀ r ∈ opcodeRows, priorityOfMnemonic r.mnemonic = r.priority := by decide

theorem priorityOfMnemonic_instr (i : Instr) : priorityOfMnemonic i.mnemonic = i.rowPriority := by cases i <;> rfl

/-- A well-formed instruction of a row of priority above 0 stands at an address left to that priority. -/
theorem rowPriority_eq_zero_or {i : Instr} {t : Transaction} (hw : i.wf = true) (he : encode i = .bus t) :
    i.rowPriority = 0 ∨ addressPriority t.addr = i.rowPriority := by
  cases i with
  | outsideWindow u => cases he; exact .inr (addressPriority_outside (by simpa [Instr.wf] using hw))
  | windowUnmappedR a => cases he; exact .inr (addressPriority_unmapped hw)
  | windowUnmappedW a v => cases he; exact .inr (addressPriority_unmapped hw)
  | trngUnknownR off => cases he; exact .inr (addressPriority_unknown hw)
  | trngUnknownW off v => cases he; exact .inr (addressPriority_unknown hw)
  | sha256UnknownR off => cases he; exact .inr (addressPriority_unknown hw)
  | sha256UnknownW off v => cases he; exact .inr (addressPriority_unknown hw)
  | roscUnknownR off => cases he; exact .inr (addressPriority_unknown hw)
  | roscUnknownW off v => cases he; exact .inr (addressPriority_unknown hw)
  | resetsUnknownR off => cases he; exact .inr (addressPriority_unknown hw)
  | resetsUnknownW off v => cases he; exact .inr (addressPriority_unknown hw)
  | _ => exact .inl rfl

/-- Settles O5: the row of the decoded instruction's mnemonic selects the key; a row that goes before it would leave the address to
a lower priority, and no other row of its priority selects the key. -/
theorem decoderTakesTheMatchingRowOfLowestPriority : Obligations.DecoderTakesTheMatchingRowOfLowestPriority := by
  intro t
  obtain ⟨r, hr, hm, hs⟩ := Laws.RowMatch.statement_of_instr (decode t) (decode_wf t) t (encode_decode t)
  refine ⟨r, hr, hs, hm, fun q hq hsq => ⟨?_, Row.eq_of_selects hq hr hsq hs⟩⟩
  by_contra hlt
  have hpr : r.priority = (decode t).rowPriority := by
    rw [← priorityOfMnemonic_row r hr, hm, priorityOfMnemonic_instr]
  have hap := addressPriority_lt hq hr hsq hs (Nat.lt_of_not_le hlt)
  rcases rowPriority_eq_zero_or (decode_wf t) (encode_decode t) with h | h <;> omega

end Sys2Proof
end

section
/-! SUPPORT. What a transaction to a TRNG register leaves, what redraws the pool, and the settled statements on the TRNG
(spec/40_trng.md R100 to R125). -/

namespace Sys2Proof.Machine

/-- A read that is a register read of the TRNG answers at that register's address. -/
theorem readAnswers_trng (r : TrngReg) {i : Instr} {v : Word} {s : State}
    (h : exec i s = readRegister .trng r.offset v s) : ReadAnswers i (Periph.trng.address r.offset) v s :=
  readAnswers_of_readRegister _ rfl h

/-- A write that leaves the state but for the TRNG record completes at its register's address and takes no draw. -/
theorem writeLeaves_trng_store (r : TrngReg) {i : Instr} {v : Word} {s : State} (x : Trng)
    (h : exec i s = writeRegister .trng r.offset v (s.setTrng x)) :
    WriteLeaves i (Periph.trng.address r.offset) v { s.block with trng := x } 0 s :=
  writeLeaves_of_writeRegister _ rfl h rfl

/-- A write without an effect completes at its register's address and leaves the block. -/
theorem writeLeaves_trng_ignored (r : TrngReg) {i : Instr} {v : Word} {s : State}
    (h : exec i s = writeRegister .trng r.offset v s) : WriteLeaves i (Periph.trng.address r.offset) v s.block 0 s :=
  writeLeaves_of_writeRegister _ rfl h (State.self_eq s)

/-- A write whose value has an action bit leaves the one block with the bit set and the other with it clear (R82). -/
theorem writeLeaves_trng_action (r : TrngReg) {i : Instr} {v : Word} {s s₁ s₀ : State} {b₁ b₀ : Block} {n₁ n₀ : Nat}
    (h : exec i s = writeRegister .trng r.offset v (if actionBit v then s₁ else s₀))
    (h₁ : s₁ = { s with block := b₁, draws := s.draws + n₁ }) (h₀ : s₀ = { s with block := b₀, draws := s.draws + n₀ }) :
    (v.getLsbD 0 = true → WriteLeaves i (Periph.trng.address r.offset) v b₁ n₁ s) ∧
    (v.getLsbD 0 = false → WriteLeaves i (Periph.trng.address r.offset) v b₀ n₀ s) := by
  refine ⟨fun hv => writeLeaves_of_writeRegister _ rfl h ?_, fun hv => writeLeaves_of_writeRegister _ rfl h ?_⟩
  · exact (if_pos hv).trans h₁
  · exact (if_neg (Bool.eq_false_iff.mp hv)).trans h₀

/-- Settles O19: the action bit chooses between a refresh and the state as it was. -/
theorem icrWriteRefreshesThePoolWhenBitZeroIsSet : Obligations.IcrWriteRefreshesThePoolWhenBitZeroIsSet :=
  fun s _ => writeLeaves_trng_action .rngIcr rfl rfl (State.self_eq s)

/-- Settles O20: the value is stored first, and the action bit adds a refresh. -/
theorem sourceEnableWriteStoresAndRefreshes : Obligations.SourceEnableWriteStoresAndRefreshes :=
  fun _ _ => writeLeaves_trng_action .rndSourceEnable rfl rfl rfl

/-- Settles O21: the action bit chooses between the re-initialisation and the state as it was. -/
theorem softwareResetReinitialisesTheTrng : Obligations.SoftwareResetReinitialisesTheTrng :=
  fun s _ => writeLeaves_trng_action .trngSwReset rfl rfl (State.self_eq s)

/-- The instruction redraws the pool: a refresh, or a re-initialisation of the TRNG by itself or by its release from reset (R101,
R292). -/
inductive RedrawsPool (s : State) : Instr → Prop where
  | icr {v : Word} (h : actionBit v = true) : RedrawsPool s (.trngRngIcrW v)
  | sourceEnable {v : Word} (h : actionBit v = true) : RedrawsPool s (.trngRndSourceEnableW v)
  | swReset {v : Word} (h : actionBit v = true) : RedrawsPool s (.trngTrngSwResetW v)
  | release {v : Word} (h : released s.block.resets.reset v resetsTrngBit = true) : RedrawsPool s (.resetsResetW v)

/-- A redraw is one of the four writes of R101 and R292, in the bits of their values. -/
theorem RedrawsPool.exists_write {s : State} {i : Instr} (h : RedrawsPool s i) :
    ∃ v : Word, (v.getLsbD 0 = true ∧ (i = .trngRngIcrW v ∨ i = .trngRndSourceEnableW v ∨ i = .trngTrngSwResetW v)) ∨
      (i = .resetsResetW v ∧ s.block.resets.reset.getLsbD 25 = true ∧ v.getLsbD 25 = false) := by
  cases h with
  | icr h => exact ⟨_, .inl ⟨h, .inl rfl⟩⟩
  | sourceEnable h => exact ⟨_, .inl ⟨h, .inr (.inl rfl)⟩⟩
  | swReset h => exact ⟨_, .inl ⟨h, .inr (.inr rfl)⟩⟩
  | release h =>
    obtain ⟨hold, hnew⟩ := (Bool.and_eq_true _ _).mp h
    exact ⟨_, .inr ⟨rfl, hold, (Bool.not_eq_true' _).mp hnew⟩⟩

/-- An instruction that answers a next state keeps the pool, or redraws it and takes the six draws. -/
theorem exec_pool {i : Instr} {s t : State} (h : exec i s = .next t) :
    t.block.trng.pool = s.block.trng.pool ∨
    RedrawsPool s i ∧ t.draws = s.draws + 6 ∧ t.block.trng.pool = drawPool s.draws := by
  have unowned (ho : ownerOf i = none) : t.block.trng.pool = s.block.trng.pool := by rw [exec_block_of_unowned ho h]
  cases i with
  | trngRngIcrW v =>
    cases h
    cases hv : actionBit v with
    | true => exact .inr ⟨.icr hv, rfl, rfl⟩
    | false => exact .inl rfl
  | trngRndSourceEnableW v =>
    cases h
    cases hv : actionBit v with
    | true => exact .inr ⟨.sourceEnable hv, rfl, rfl⟩
    | false => exact .inl rfl
  | trngTrngSwResetW v =>
    cases h
    cases hv : actionBit v with
    | true => exact .inr ⟨.swReset hv, rfl, rfl⟩
    | false => exact .inl rfl
  | resetsResetW v =>
    cases h
    rw [State.writeReset_eq]
    cases hv : released s.block.resets.reset v resetsTrngBit with
    | true => exact .inr ⟨.release hv, rfl, rfl⟩
    | false => exact .inl rfl
  | refuseFetch size a => cases h
  | refuseReservedKind size a => cases h
  | refuseReservedSize acc a => cases h
  | refuseSubword acc half a => cases h
  | refuseMisalignedOdd acc a => cases h
  | refuseMisalignedHalf acc a => cases h
  | outsideWindow u => exact .inl (unowned (ownerOf_outsideWindow u))
  | shareSplitKey key => exact .inl (unowned rfl)
  | shareSplitIV iv => exact .inl (unowned rfl)
  | shareJoinKey shares => exact .inl (unowned rfl)
  | _ => cases h; exact .inl rfl

/-- Settles O22: what redraws the pool is one of the four writes, and the new pool is the next six draws. -/
theorem thePoolChangesOnlyByRefreshOrReinitialisation : Obligations.ThePoolChangesOnlyByRefreshOrReinitialisation :=
  fun _ _ _ h => (exec_pool h).imp_right fun ⟨hi, hd, hp⟩ => ⟨hi.exists_write, hd, hp⟩

/-- Settles O14: each read is a register read of its stored word. -/
theorem trngStorageReadsReturnTheStoredWord : Obligations.TrngStorageReadsReturnTheStoredWord :=
  fun _ => ⟨readAnswers_trng .rngImr rfl, readAnswers_trng .trngConfig rfl, readAnswers_trng .rndSourceEnable rfl,
    readAnswers_trng .sampleCnt1 rfl, readAnswers_trng .trngDebugControl rfl⟩

/-- Settles O15: each write sets the one field of the TRNG record. -/
theorem trngStorageWritesStoreTheWholeWord : Obligations.TrngStorageWritesStoreTheWholeWord :=
  fun _ _ => ⟨writeLeaves_trng_store .rngImr _ rfl, writeLeaves_trng_store .trngConfig _ rfl,
    writeLeaves_trng_store .sampleCnt1 _ rfl, writeLeaves_trng_store .trngDebugControl _ rfl⟩

/-- Settles O16: each read is a register read of a constant. -/
theorem trngStatusReadsAreConstant : Obligations.TrngStatusReadsAreConstant :=
  fun _ => ⟨readAnswers_trng .rngIsr rfl, readAnswers_trng .rngIcr rfl, readAnswers_trng .trngValid rfl,
    readAnswers_trng .trngSwReset rfl, readAnswers_trng .trngBusy rfl⟩

/-- Settles O17: each write has no effect before the trap completes it. -/
theorem trngReadOnlyWritesAreIgnored : Obligations.TrngReadOnlyWritesAreIgnored :=
  fun _ _ => ⟨writeLeaves_trng_ignored .rngIsr rfl, writeLeaves_trng_ignored .trngValid rfl,
    writeLeaves_trng_ignored .trngBusy rfl, writeLeaves_trng_ignored .ehrData0 rfl, writeLeaves_trng_ignored .ehrData1 rfl,
    writeLeaves_trng_ignored .ehrData2 rfl, writeLeaves_trng_ignored .ehrData3 rfl, writeLeaves_trng_ignored .ehrData4 rfl,
    writeLeaves_trng_ignored .ehrData5 rfl⟩

/-- Settles O18: each read is a register read of its pool word. -/
theorem ehrDataReadsReturnThePoolWord : Obligations.EhrDataReadsReturnThePoolWord :=
  fun _ => ⟨readAnswers_trng .ehrData0 rfl, readAnswers_trng .ehrData1 rfl, readAnswers_trng .ehrData2 rfl,
    readAnswers_trng .ehrData3 rfl, readAnswers_trng .ehrData4 rfl, readAnswers_trng .ehrData5 rfl⟩

end Sys2Proof.Machine
end

section
/-! SUPPORT. What a transaction to a SHA-256 register leaves, the CSR's fields, the message schedule, and the settled statements on
the SHA-256 accelerator (spec/41_sha256.md R141 to R154). -/

namespace Sys2Proof.Machine

/-- A read that is a register read of the accelerator answers at that register's address. -/
theorem readAnswers_sha (r : ShaReg) {i : Instr} {v : Word} {s : State}
    (h : exec i s = readRegister .sha r.offset v s) : ReadAnswers i (Periph.sha.address r.offset) v s :=
  readAnswers_of_readRegister _ rfl h

/-- A write that leaves the state but for the accelerator's record completes at its register's address and takes no draw. -/
theorem writeLeaves_sha (r : ShaReg) {i : Instr} {v : Word} {s : State} {x y : Sha}
    (h : exec i s = writeRegister .sha r.offset v (s.setSha x)) (hx : x = y) :
    WriteLeaves i (Periph.sha.address r.offset) v { s.block with sha := y } 0 s :=
  writeLeaves_of_writeRegister _ rfl h (congrArg s.setSha hx)

/-- The fields of the CSR side by side are the fields shifted to their bits (R30, R141). -/
theorem csrFields_eq_or : ∀ (bswap sumVld : Bool) (dmaSize : BitVec 2),
    (BitVec.ofBool bswap ++ 0#2 ++ dmaSize ++ 0#5 ++ BitVec.ofBool sumVld ++ 1#1 ++ 0#1).setWidth 32 =
      ((BitVec.ofBool bswap).setWidth 32 <<< 12) ||| (dmaSize.setWidth 32 <<< 8) |||
        ((BitVec.ofBool sumVld).setWidth 32 <<< 2) ||| (1#32 <<< 1) := by decide

/-- Settles O23: the CSR's value is its fields, each at its bit. -/
theorem csrReadComposesItsFields : Obligations.CsrReadComposesItsFields := fun s => by
  rw [← csrFields_eq_or]
  exact readAnswers_sha .csr rfl

/-- Settles O24: the control fields are stored, and the action bit adds a start. -/
theorem csrWriteStoresControlFieldsAndStarts : Obligations.CsrWriteStoresControlFieldsAndStarts :=
  fun _ _ => ⟨fun hv => writeLeaves_sha .csr rfl (Sha.writeCsr_start hv),
    fun hv => writeLeaves_sha .csr rfl (Sha.writeCsr_store hv)⟩

/-- Settles O25: the length of the queue decides whether the word completes a block; the byte swap written out is `msgWord`. -/
theorem wdataWriteQueuesOrCompresses : Obligations.WdataWriteQueuesOrCompresses :=
  fun _ v => ⟨fun hq => writeLeaves_sha .wdata rfl (Sha.push_partial v hq),
    fun hq => writeLeaves_sha .wdata rfl (Sha.push_complete v hq)⟩

/-- Settles O26: each read is a register read of 0 or of its hash word. -/
theorem shaDataReadsReturnZeroAndTheHashWords : Obligations.ShaDataReadsReturnZeroAndTheHashWords :=
  fun _ => ⟨readAnswers_sha .wdata rfl, readAnswers_sha .sum0 rfl, readAnswers_sha .sum1 rfl, readAnswers_sha .sum2 rfl,
    readAnswers_sha .sum3 rfl, readAnswers_sha .sum4 rfl, readAnswers_sha .sum5 rfl, readAnswers_sha .sum6 rfl,
    readAnswers_sha .sum7 rfl⟩

/-- Settles O27: each write is a register write that sets the record to itself. -/
theorem sumWritesAreIgnored : Obligations.SumWritesAreIgnored :=
  fun _ _ => ⟨writeLeaves_sha .sum0 rfl rfl, writeLeaves_sha .sum1 rfl rfl, writeLeaves_sha .sum2 rfl rfl,
    writeLeaves_sha .sum3 rfl rfl, writeLeaves_sha .sum4 rfl rfl, writeLeaves_sha .sum5 rfl rfl,
    writeLeaves_sha .sum6 rfl rfl, writeLeaves_sha .sum7 rfl rfl⟩

/-- One further word of the schedule goes before all the others, and depends on them. -/
theorem extendSchedule_succ (n : Nat) (newest : List Word) :
    extendSchedule (n + 1) newest = nextScheduleWord (extendSchedule n newest) :: extendSchedule n newest := by
  induction n generalizing newest with
  | zero => rfl
  | succ n ih => exact ih _

@[simp] theorem length_extendSchedule (n : Nat) (newest : List Word) :
    (extendSchedule n newest).length = n + newest.length := by
  induction n with
  | zero => exact (Nat.zero_add _).symm
  | succ n ih => rw [extendSchedule_succ, List.length_cons, ih, Nat.add_right_comm]

/-- Without its last `n` words the schedule is the one of `n` words fewer. -/
theorem drop_extendSchedule (n k : Nat) (newest : List Word) :
    (extendSchedule (n + k) newest).drop n = extendSchedule k newest := by
  induction n with
  | zero => rw [Nat.zero_add, List.drop_zero]
  | succ n ih => rw [Nat.add_right_comm, extendSchedule_succ, List.drop_succ_cons, ih]

section Schedule
variable {block : List Word} (hb : block.length = 16)
include hb

theorem length_schedule : (schedule block).length = 64 := by simp [schedule, hb]

/-- The schedule starts with the block. -/
theorem take_schedule : (schedule block).take 16 = block := by
  rw [schedule, List.take_reverse, length_extendSchedule, List.length_reverse, hb, drop_extendSchedule 48 0]
  exact block.reverse_reverse

/-- Word `i` of the schedule, `m` words before word `k + 15`, is at position `m` when word `k + 15` is the newest. -/
theorem getD_schedule {i k m : Nat} (hk : k ≤ 48) (h : i + m = k + 15) :
    (schedule block).getD i 0 = (extendSchedule k block.reverse).getD m 0 := by
  have hl : (extendSchedule 48 block.reverse).length = 64 := by rw [length_extendSchedule, List.length_reverse, hb]
  have hi : 64 - 1 - i = 48 - k + m := by omega
  calc (schedule block).getD i 0
      = (extendSchedule 48 block.reverse).getD (48 - k + m) 0 := by
        simp only [schedule, List.getD_eq_getElem?_getD]
        rw [List.getElem?_reverse (by omega), hl, hi]
    _ = ((extendSchedule (48 - k + k) block.reverse).drop (48 - k)).getD m 0 := by
        simp only [Nat.sub_add_cancel hk, List.getD_eq_getElem?_getD, List.getElem?_drop]
    _ = (extendSchedule k block.reverse).getD m 0 := by rw [drop_extendSchedule]

end Schedule

/-- Settles O30: word `k + 16` is the newest of `k + 1` further words, and the four it depends on are among those before it. -/
theorem theScheduleFollowsItsRecurrence : Obligations.TheScheduleFollowsItsRecurrence := by
  intro block hb
  refine ⟨length_schedule hb, take_schedule hb, fun k hk => ?_⟩
  have before (i m : Nat) (h : i + m = k + 15) :
      (schedule block).getD i 0 = (extendSchedule k block.reverse).getD m 0 := getD_schedule hb hk.le h
  calc (schedule block).getD (k + 16) 0
      = (extendSchedule (k + 1) block.reverse).getD 0 0 := getD_schedule hb hk rfl
    _ = nextScheduleWord (extendSchedule k block.reverse) := by rw [extendSchedule_succ, List.getD_cons_zero]
    _ = _ := by
      rw [before (k + 14) 1 rfl, before (k + 9) 6 rfl, before (k + 1) 14 rfl, before k 15 rfl, nextScheduleWord]

/-- Settles O31: the kernel computes the four compressions. -/
theorem compressionGivesThePublishedDigests : Obligations.CompressionGivesThePublishedDigests :=
  ⟨by decide +kernel, by decide +kernel, by decide +kernel, by decide +kernel⟩

end Sys2Proof.Machine
end

section
/-! SUPPORT. What a transaction to a ROSC register leaves, and the settled statements on the ROSC (spec/42_rosc.md R181 to R196). -/

namespace Sys2Proof.Machine

/-- A read that is a register read of the ROSC answers at that register's address. -/
theorem readAnswers_rosc (r : RoscReg) {i : Instr} {v : Word} {s : State}
    (h : exec i s = readRegister .rosc r.offset v s) : ReadAnswers i (Periph.rosc.address r.offset) v s :=
  readAnswers_of_readRegister _ rfl h

/-- A write that leaves the state but for the ROSC record completes at its register's address and takes no draw. -/
theorem writeLeaves_rosc (r : RoscReg) {i : Instr} {v : Word} {s : State} (x : Rosc)
    (h : exec i s = writeRegister .rosc r.offset v (s.setRosc x)) :
    WriteLeaves i (Periph.rosc.address r.offset) v { s.block with rosc := x } 0 s :=
  writeLeaves_of_writeRegister _ rfl h rfl

/-- Settles O33: each read is a register read of its stored word. -/
theorem roscStorageReadsReturnTheStoredWord : Obligations.RoscStorageReadsReturnTheStoredWord :=
  fun _ => ⟨readAnswers_rosc .ctrl rfl, readAnswers_rosc .freqa rfl, readAnswers_rosc .freqb rfl,
    readAnswers_rosc .dormant rfl, readAnswers_rosc .div rfl, readAnswers_rosc .phase rfl, readAnswers_rosc .status rfl⟩

/-- Settles O34: each write sets the one field of the ROSC record. -/
theorem roscStorageWritesStoreTheWholeWord : Obligations.RoscStorageWritesStoreTheWholeWord :=
  fun _ _ => ⟨writeLeaves_rosc .ctrl _ rfl, writeLeaves_rosc .freqa _ rfl, writeLeaves_rosc .freqb _ rfl,
    writeLeaves_rosc .dormant _ rfl, writeLeaves_rosc .div _ rfl, writeLeaves_rosc .phase _ rfl, writeLeaves_rosc .status _ rfl⟩

/-- Settles O35: the read takes one draw and then answers as any register read does; the write sets the record to itself. -/
theorem randombitReadsAFreshDrawUnderTheMask : Obligations.RandombitReadsAFreshDrawUnderTheMask := by
  intro s v
  constructor
  · exact ⟨_, storesWord_writeWord _ _ _, rfl⟩
  · exact writeLeaves_rosc .randombit s.block.rosc rfl

end Sys2Proof.Machine
end

section
/-! SUPPORT. The settled statements on the RESETS (spec/43_resets.md R201 to R205). -/

namespace Sys2Proof.Machine

/-- Settles O37: the read is a register read of the stored word. -/
theorem resetReadReturnsTheStoredWord : Obligations.ResetReadReturnsTheStoredWord :=
  fun _ => readAnswers_of_readRegister _ rfl rfl

/-- Settles O38: the write's effect is `State.writeReset`, whose two conditions and reset records the statement writes out. -/
theorem resetWritePropagatesReleases : Obligations.ResetWritePropagatesReleases :=
  fun s v => writeLeaves_of_writeRegister _ rfl rfl (State.writeReset_eq s v)

end Sys2Proof.Machine
end

section
/-! SUPPORT. The settled statements on what the dispatcher admits and reaches no register with (spec/44_dispatcher.md R222, R225): the
unknown offsets of the regions, and the window outside every region. -/

namespace Sys2Proof.Machine

/-- An access at an unknown offset is an access to a register that reads 0 and keeps nothing (R222). -/
theorem unknownInstr_answers (p : Periph) (off : BitVec 12) (v : Word) (s : State) :
    ReadAnswers (p.unknownInstr off .read) (p.address off) 0#32 s ∧
    WriteLeaves (p.unknownInstr off (.write v)) (p.address off) v s.block 0 s := by
  have hr : exec (p.unknownInstr off .read) s = readRegister p off 0#32 s := by cases p <;> rfl
  have hw : exec (p.unknownInstr off (.write v)) s = writeRegister p off v s := by cases p <;> rfl
  exact ⟨readAnswers_of_readRegister _ rfl hr, writeLeaves_of_writeRegister _ rfl hw s.self_eq⟩

/-- Settles O39: each region's instructions are its peripheral's `unknownInstr`, at the peripheral's base. -/
theorem unknownOffsetsReadZeroAndDiscardWrites : Obligations.UnknownOffsetsReadZeroAndDiscardWrites :=
  fun s off v => ⟨fun _ => unknownInstr_answers .resets off v s, fun _ => unknownInstr_answers .rosc off v s,
    fun _ => unknownInstr_answers .trng off v s, fun _ => unknownInstr_answers .sha off v s⟩

/-- Settles O40: the access leaves nothing but its answer and the trap's word. -/
theorem unmappedWindowAddressesReadZeroAndDiscardWrites : Obligations.UnmappedWindowAddressesReadZeroAndDiscardWrites :=
  fun _ _ _ _ => ⟨⟨_, storesWord_writeWord _ _ _, rfl⟩, ⟨_, storesWord_writeWord _ _ _, rfl⟩⟩

end Sys2Proof.Machine
end

section
/-! SUPPORT. The settled statements on the refusals of the admission check (spec/44_dispatcher.md R226, spec/60_exceptions.md R263 to
R265): what each check of the decoder refuses, in its order. -/

namespace Sys2Proof.Machine

/-- Settles O43: the six meanings refuse without looking at the state. -/
theorem theRefusalRowsStopWithTheirReason : Obligations.TheRefusalRowsStopWithTheirReason :=
  fun _ _ _ _ => ⟨rfl, rfl, rfl, rfl, rfl, rfl, rfl⟩

section
variable (acc : DataAccess) (a : Word) (s : State)

/-- A read or write of the reserved size code is refused as such, whatever its address (R87). -/
theorem exec_decodeData_reservedSize : exec (decodeData acc 3#2 a) s = .refused (.reservedCode a) := rfl

/-- A read or write of one or two bytes is refused before its alignment is looked at (R66). -/
theorem exec_decodeData_subword {size : BitVec 2} (h : size = 0#2 ∨ size = 1#2) :
    exec (decodeData acc size a) s = .refused (.subwordMmio a size) := by
  rcases h with rfl | rfl <;> rfl

/-- A word access at an odd or half-word address is refused: both rows give the one reason (R65). -/
theorem exec_decodeData_misaligned (h : a.toNat % 4 ≠ 0) : exec (decodeData acc 2#2 a) s = .refused (.misalignedMmio a) := by
  cases h0 : a.getLsbD 0 with
  | true => simp only [decodeData, h0]; rfl
  | false =>
    cases h1 : a.getLsbD 1 with
    | true => simp only [decodeData, h0, h1]; rfl
    | false => exact absurd ((aligned_iff a).mp (by simp only [aligned, h0, h1]; rfl)) h

end

section
variable {size : BitVec 2} {a : Word} (hw : inWindow a = true)
include hw

/-! The decoder takes the kind first in the window. -/

theorem decode_window_fetch : decode ⟨.fetch, size, a⟩ = .refuseFetch size a := by
  simp only [decode, hw, if_true]

theorem decode_window_reserved : decode ⟨.reserved, size, a⟩ = .refuseReservedKind size a := by
  simp only [decode, hw, if_true]

theorem decode_window_data (acc : DataAccess) : decode ⟨.data acc, size, a⟩ = decodeData acc size a := by
  simp only [decode, hw, if_true]

end

/-- Settles O42: in the window the decoder looks at the kind first, and `decodeData` at the size and then at the alignment. -/
theorem theAdmissionCheckRefusesInOrder : Obligations.TheAdmissionCheckRefusesInOrder := by
  rintro ⟨access, size, a⟩ s hw
  change inWindow a = true at hw
  refine ⟨?fetch, ?reserved, ?subword, ?misaligned⟩
  case fetch =>
    rintro rfl
    rw [decode_window_fetch hw]
    rfl
  case reserved =>
    intro hf h
    cases access with
    | fetch => exact absurd rfl hf
    | reserved =>
      rw [decode_window_reserved hw]
      rfl
    | data acc =>
      obtain rfl : size = 3#2 := h.resolve_left nofun
      rw [decode_window_data hw]
      exact exec_decodeData_reservedSize acc a s
  case subword =>
    rintro acc rfl h
    rw [decode_window_data hw]
    exact exec_decodeData_subword acc a s h
  case misaligned =>
    rintro acc rfl rfl h
    rw [decode_window_data hw]
    exact exec_decodeData_misaligned acc a s h

end Sys2Proof.Machine
end

section
/-! SUPPORT. The settled statements on the unmapped accesses outside the window (spec/44_dispatcher.md R227, spec/60_exceptions.md R261,
R265): each is one whose bytes no single region holds. -/

namespace Sys2Proof.Machine

/-- Where a region serves an access, it holds all its bytes (R265). -/
theorem State.exists_region_of_maps {s : State} {a : Word} {n : Nat} (h : s.maps a n = true) :
    ∃ r ∈ s.regions, r.base.toNat ≤ a.toNat ∧ a.toNat + n ≤ r.base.toNat + r.size := by
  obtain ⟨r, hr, hh⟩ := List.any_eq_true.mp h
  simp only [regionHolds, Bool.and_eq_true, decide_eq_true_eq] at hh
  obtain ⟨⟨hlo, hhi, -⟩, -⟩ := hh
  exact ⟨r, hr, hlo, hhi⟩

/-- The widths of the size codes (R80). -/
theorem accessBytes_eq_some_iff {size : BitVec 2} {n : Nat} :
    accessBytes size = some n ↔ (size = 0#2 ∧ n = 1) ∨ (size = 1#2 ∧ n = 2) ∨ (size = 2#2 ∧ n = 4) := by
  unfold accessBytes
  split
  next h => subst h; simp [eq_comm]
  split
  next h => subst h; simp [eq_comm]
  split
  next h => subst h; simp [eq_comm]
  next h0 h1 h2 => simp [h0, h1, h2]

/-- Settles O50: a region that served the access would hold its first byte. -/
theorem unmappedAccessFaults : Obligations.UnmappedAccessFaults := by
  intro t s hw hr
  refine exec_decode_unserved hw (Option.eq_none_iff_forall_ne_some.mpr fun n hn => ?_)
  obtain ⟨-, hb, hm⟩ := State.servedBytes_eq_some_iff.mp hn
  obtain ⟨r, hmem, hlo, hhi⟩ := State.exists_region_of_maps hm
  have hpos : 0 < n := by
    have := accessBytes_eq_some_iff.mp hb
    omega
  exact hr r hmem ⟨hlo, by omega⟩

/-- Settles O60: a region that served the access would hold all its bytes, and none past the address space or in the window. -/
theorem accessesNoRegionHoldsWholeFault : Obligations.AccessesNoRegionHoldsWholeFault := by
  intro s t n hn hw h
  refine exec_decode_unserved hw (Option.eq_none_iff_forall_ne_some.mpr fun m hm => ?_)
  obtain ⟨-, hb, hmaps⟩ := State.servedBytes_eq_some_iff.mp hm
  obtain rfl : n = m := Option.some.inj ((accessBytes_eq_some_iff.mpr hn).symm.trans hb)
  obtain ⟨hspace, hclear⟩ := State.maps_bounds hmaps
  rcases h with hr | hover | ⟨hbelow, hinto⟩
  · obtain ⟨r, hmem, hheld⟩ := State.exists_region_of_maps hmaps
    exact hr r hmem hheld
  · exact absurd hspace (Nat.not_le.mpr hover)
  · omega

end Sys2Proof.Machine
end

section
/-! SUPPORT. The settled statements on the secret-sharing transform (spec/45_secret_sharing.md R240 to R245). What the transform makes
is read byte by byte: the shares of word `i` stand at `16 * i`, the word itself at `4 * i`. -/

namespace Sys2Proof.Machine

/-! ### Byte strings -/

/-- Byte strings of one length are equal where they read the same at every index. -/
theorem bytes_ext_getD {a b : List Byte} {n : Nat} (ha : a.length = n) (hb : b.length = n)
    (h : ∀ k, k < n → a.getD k 0 = b.getD k 0) : a = b := by
  refine List.ext_getElem (ha.trans hb.symm) fun k hka hkb => ?_
  have hk := h k (ha ▸ hka)
  rwa [List.getD_eq_getElem a 0 hka, List.getD_eq_getElem b 0 hkb] at hk

theorem getD_append_add {l : List Byte} {n : Nat} (h : l.length = n) (r : List Byte) (k : Nat) :
    (l ++ r).getD (n + k) 0 = r.getD k 0 := by
  rw [List.getD_append_right _ _ _ _ (h ▸ Nat.le_add_right n k), h, Nat.add_sub_cancel_left]

theorem getD_drop (l : List Byte) (m k : Nat) : (l.drop m).getD k 0 = l.getD (m + k) 0 := by
  simp only [List.getD_eq_getElem?_getD, List.getElem?_drop]

theorem getD_take {k n : Nat} (l : List Byte) (h : k < n) : (l.take n).getD k 0 = l.getD k 0 := by
  simp only [List.getD_eq_getElem?_getD, List.getElem?_take_of_lt h]

theorem drawBytes_length (k n : Nat) : (drawBytes k n).length = n := by simp [drawBytes]

theorem drawBytes_getD {n j : Nat} (k : Nat) (h : j < n) : (drawBytes k n).getD j 0 = Config.drawByte k j := by
  rw [List.getD_eq_getElem _ 0 ((drawBytes_length k n).symm ▸ h)]
  simp [drawBytes]

theorem xorBytes_length {a b : List Byte} {n : Nat} (ha : a.length = n) (hb : b.length = n) : (xorBytes a b).length = n := by
  simp [xorBytes, ha, hb]

/-- Past the end both sides read 0, and `0 ⊕ 0 = 0`. -/
theorem xorBytes_getD {a b : List Byte} (h : a.length = b.length) (k : Nat) :
    (xorBytes a b).getD k 0 = a.getD k 0 ^^^ b.getD k 0 := by
  rcases Nat.lt_or_ge k b.length with hk | hk <;> simp [xorBytes, h, hk]

/-- A mask that is XORed in twice cancels. -/
theorem xor_mask_cancel (m w : Byte) : m ^^^ (w ^^^ m) = w := by
  rw [BitVec.xor_comm, BitVec.xor_assoc, BitVec.xor_self, BitVec.xor_zero]

section FourStrings
variable {w a b c : List Byte} {n : Nat} (hw : w.length = n) (ha : a.length = n) (hb : b.length = n) (hc : c.length = n)
include hw ha hb hc

/-! The XOR of four byte strings: it gives the share `d` of a word (R241) and the word of four shares (R244). -/

theorem xorBytes_four_length : (xorBytes (xorBytes (xorBytes w a) b) c).length = n :=
  xorBytes_length (xorBytes_length (xorBytes_length hw ha) hb) hc

theorem xorBytes_four_getD (k : Nat) : (xorBytes (xorBytes (xorBytes w a) b) c).getD k 0 =
    w.getD k 0 ^^^ a.getD k 0 ^^^ b.getD k 0 ^^^ c.getD k 0 := by
  have hwa := xorBytes_length hw ha
  rw [xorBytes_getD ((xorBytes_length hwa hb).trans hc.symm), xorBytes_getD (hwa.trans hb.symm), xorBytes_getD (hw.trans ha.symm)]

end FourStrings

/-! ### The shares of a key -/

section Split
variable {share : Nat → List Byte} (hs : ∀ j, (share j).length = 4)
include hs

/-- The share `d` of a word has its four bytes. -/
theorem shareD_length (j : Nat) {key : List Byte} (hk : 4 ≤ key.length) :
    (xorBytes (xorBytes (xorBytes (key.take 4) (share j)) (share (j + 1))) (share (j + 2))).length = 4 :=
  xorBytes_four_length (List.length_take_of_le hk) (hs j) (hs (j + 1)) (hs (j + 2))

theorem splitWords_length (n j : Nat) {key : List Byte} (hk : key.length = 4 * n) :
    (splitWords share n j key).length = 16 * n := by
  induction n generalizing j key with
  | zero => rfl
  | succ n ih =>
    have hrest := ih (j + 3) (key := key.drop 4) (by rw [List.length_drop]; omega)
    simp only [splitWords, List.length_append, hs, shareD_length hs j (by omega : 4 ≤ key.length), hrest]
    omega

/-- The shares from word `i` on are those of the key from word `i` on, made with the draws that are left. -/
theorem splitWords_drop {n i : Nat} (hi : i ≤ n) (j : Nat) {key : List Byte} (hk : key.length = 4 * n) :
    (splitWords share n j key).drop (16 * i) = splitWords share (n - i) (j + 3 * i) (key.drop (4 * i)) := by
  induction i generalizing n j key with
  | zero => rfl
  | succ i ih =>
    obtain ⟨m, rfl⟩ : ∃ m, n = m + 1 := ⟨n - 1, by omega⟩
    have hd := shareD_length hs j (by omega : 4 ≤ key.length)
    calc (splitWords share (m + 1) j key).drop (16 * (i + 1))
      _ = ((splitWords share (m + 1) j key).drop 16).drop (16 * i) := by rw [List.drop_drop, Nat.mul_succ, Nat.add_comm]
      _ = (splitWords share m (j + 3) (key.drop 4)).drop (16 * i) := by
        rw [splitWords, List.drop_left' (by simp only [List.length_append, hs, hd])]
      _ = splitWords share (m - i) (j + 3 + 3 * i) ((key.drop 4).drop (4 * i)) :=
        ih (by omega) (j + 3) (by rw [List.length_drop]; omega)
      _ = splitWords share (m + 1 - (i + 1)) (j + 3 * (i + 1)) (key.drop (4 * (i + 1))) := by
        rw [List.drop_drop, Nat.add_sub_add_right, Nat.add_assoc, Nat.add_comm 3, Nat.add_comm 4, Nat.mul_succ, Nat.mul_succ]

/-- The shares of the first word, byte by byte (R240, R241). -/
theorem splitWords_getD_head (n j : Nat) {key : List Byte} (hk : 4 ≤ key.length) {k : Nat} (h : k < 4) :
    (splitWords share (n + 1) j key).getD k 0 = (share j).getD k 0 ∧
    (splitWords share (n + 1) j key).getD (4 + k) 0 = (share (j + 1)).getD k 0 ∧
    (splitWords share (n + 1) j key).getD (8 + k) 0 = (share (j + 2)).getD k 0 ∧
    (splitWords share (n + 1) j key).getD (12 + k) 0 =
      key.getD k 0 ^^^ (share j).getD k 0 ^^^ (share (j + 1)).getD k 0 ^^^ (share (j + 2)).getD k 0 := by
  have hw : (key.take 4).length = 4 := List.length_take_of_le hk
  have hfirst {l : List Byte} (hl : l.length = 4) (r : List Byte) : (l ++ r).getD k 0 = l.getD k 0 :=
    List.getD_append _ _ _ _ (hl.symm ▸ h)
  rw [show 8 + k = 4 + (4 + k) by omega, show 12 + k = 4 + (4 + (4 + k)) by omega]
  simp only [splitWords, List.append_assoc, getD_append_add (hs _), hfirst (hs _), hfirst (shareD_length hs j hk),
    xorBytes_four_getD hw (hs _) (hs _) (hs _), getD_take key h, and_self]

/-- The shares of word `i`, byte by byte. -/
theorem splitWords_getD {n i k : Nat} (hi : i < n) (h : k < 4) (j : Nat) {key : List Byte} (hk : key.length = 4 * n) :
    (splitWords share n j key).getD (16 * i + k) 0 = (share (j + 3 * i)).getD k 0 ∧
    (splitWords share n j key).getD (16 * i + 4 + k) 0 = (share (j + 3 * i + 1)).getD k 0 ∧
    (splitWords share n j key).getD (16 * i + 8 + k) 0 = (share (j + 3 * i + 2)).getD k 0 ∧
    (splitWords share n j key).getD (16 * i + 12 + k) 0 = key.getD (4 * i + k) 0 ^^^
      (share (j + 3 * i)).getD k 0 ^^^ (share (j + 3 * i + 1)).getD k 0 ^^^ (share (j + 3 * i + 2)).getD k 0 := by
  have hrest : 4 ≤ (key.drop (4 * i)).length := by rw [List.length_drop]; omega
  simp only [Nat.add_assoc (16 * i), ← getD_drop _ (16 * i), ← getD_drop _ (4 * i), splitWords_drop hs hi.le j hk]
  obtain ⟨m, hm⟩ : ∃ m, n - i = m + 1 := ⟨n - i - 1, by omega⟩
  rw [hm]
  exact splitWords_getD_head hs m (j + 3 * i) hrest h

end Split

/-! ### The key of its shares -/

theorem joinWords_length (n : Nat) {shares : List Byte} (hl : shares.length = 16 * n) : (joinWords n shares).length = 4 * n := by
  induction n generalizing shares with
  | zero => rfl
  | succ n ih =>
    have hrest := ih (shares := shares.drop 16) (by rw [List.length_drop]; omega)
    simp only [joinWords, xorBytes, List.length_append, List.length_zipWith, List.length_take, List.length_drop, hrest]
    omega

/-- A byte of word `i` is the XOR of that byte of the word's four shares (R244). -/
theorem joinWords_getD {n i k : Nat} (hi : i < n) (h : k < 4) {shares : List Byte} (hl : shares.length = 16 * n) :
    (joinWords n shares).getD (4 * i + k) 0 =
      shares.getD (16 * i + k) 0 ^^^ shares.getD (16 * i + 4 + k) 0 ^^^ shares.getD (16 * i + 8 + k) 0 ^^^
        shares.getD (16 * i + 12 + k) 0 := by
  induction n generalizing i shares with
  | zero => omega
  | succ n ih =>
    have hpart (m : Nat) (hm : m + 4 ≤ 16) : ((shares.drop m).take 4).length = 4 :=
      List.length_take_of_le (by rw [List.length_drop]; omega)
    have hfirst := hpart 0 (by omega)
    rw [List.drop_zero] at hfirst
    have hword := xorBytes_four_length hfirst (hpart 4 (by omega)) (hpart 8 (by omega)) (hpart 12 (by omega))
    cases i with
    | zero =>
      rw [joinWords, List.getD_append _ _ _ _ (by omega),
        xorBytes_four_getD hfirst (hpart 4 (by omega)) (hpart 8 (by omega)) (hpart 12 (by omega))]
      simp only [getD_take _ h, getD_drop, Nat.mul_zero, Nat.zero_add]
    | succ i =>
      rw [joinWords, show 4 * (i + 1) + k = 4 + (4 * i + k) by omega, getD_append_add hword,
        ih (by omega) (by rw [List.length_drop]; omega)]
      simp only [getD_drop, Nat.mul_succ, Nat.add_comm (16 * i) 16, Nat.add_assoc]

/-- Joining the shares of a key gives the key: each byte of a draw is XORed in twice (R243). -/
theorem joinWords_splitWords {share : Nat → List Byte} (hs : ∀ j, (share j).length = 4) (n j : Nat) {key : List Byte}
    (hk : key.length = 4 * n) : joinWords n (splitWords share n j key) = key := by
  have hl := splitWords_length hs n j hk
  refine bytes_ext_getD (joinWords_length n hl) hk fun m hm => ?_
  have hi : m / 4 < n := by omega
  have hr : m % 4 < 4 := Nat.mod_lt m (by omega)
  obtain ⟨ha, hb, hc, hd⟩ := splitWords_getD hs hi hr j hk
  rw [← Nat.div_add_mod m 4, joinWords_getD hi hr hl, ha, hb, hc, hd, BitVec.xor_assoc (key.getD _ 0),
    BitVec.xor_assoc (key.getD _ 0), xor_mask_cancel]

/-! ### The host calls -/

/-- `splitKey` of a key takes 24 draws of four bytes (R240). -/
theorem exec_shareSplitKey {key : List Byte} (h : key.length = 32) (s : State) :
    exec (.shareSplitKey key) s = .next { s with
      draws := s.draws + 24, response := .bytes (splitKeyWith (fun j => drawBytes (s.draws + 1 + j) 4) key) } :=
  if_pos h

/-- `joinKey` of the shares of a key takes no draw (R244). -/
theorem exec_shareJoinKey {shares : List Byte} (h : shares.length = 128) (s : State) :
    exec (.shareJoinKey shares) s = .next { s with response := .bytes (joinKeyBytes shares) } :=
  if_pos h

theorem splitKeyWith_length {share : Nat → List Byte} (hs : ∀ j, (share j).length = 4) {key : List Byte} (h : key.length = 32) :
    (splitKeyWith share key).length = 128 :=
  splitWords_length hs 8 0 h

/-- Joining a key's shares gives the key (R243). -/
theorem joinKeyBytes_splitKeyWith {share : Nat → List Byte} (hs : ∀ j, (share j).length = 4) {key : List Byte}
    (h : key.length = 32) : joinKeyBytes (splitKeyWith share key) = key :=
  joinWords_splitWords hs 8 0 h

/-- Settles O53: the shares of word `i` are made with the draws `3 * i`, `3 * i + 1` and `3 * i + 2` of the call. -/
theorem splitKeyLaysOutFourSharesPerWord : Obligations.SplitKeyLaysOutFourSharesPerWord := by
  intro s key h
  have hs (j : Nat) : (drawBytes (s.draws + 1 + j) 4).length = 4 := drawBytes_length _ 4
  refine ⟨_, exec_shareSplitKey h s, splitKeyWith_length hs h, fun i j hi hj => ?_⟩
  have hbytes := splitWords_getD hs hi hj 0 h
  simp only [drawBytes_getD _ hj, Nat.zero_add] at hbytes
  rw [show s.draws + 2 + 3 * i = s.draws + 1 + (3 * i + 1) by omega, show s.draws + 3 + 3 * i = s.draws + 1 + (3 * i + 2) by omega]
  exact hbytes

/-- Settles O54: the second share is the IV XORed with the draw, which is the first. -/
theorem splitIVMasksTheIVWithADraw : Obligations.SplitIVMasksTheIVWithADraw := by
  intro s iv h
  have hdraw := drawBytes_length (s.draws + 1) 16
  refine ⟨_, _, if_pos h, hdraw, xorBytes_length h hdraw, fun j hj => ⟨drawBytes_getD _ hj, ?_⟩⟩
  exact (xorBytes_getD (h.trans hdraw.symm) j).trans (congrArg _ (drawBytes_getD _ hj))

/-- Settles O55: `joinKey` joins eight words, each of its four shares. -/
theorem joinKeyXorsTheFourShares : Obligations.JoinKeyXorsTheFourShares :=
  fun s _ h => ⟨_, exec_shareJoinKey h s, joinWords_length 8 h, fun _ _ hi hj => joinWords_getD (n := 8) hi hj h⟩

/-- Settles O56: in the key each draw is XORed in twice (`joinWords_splitWords`), and so it is in the IV. -/
theorem sharesReconstructForEveryDraw : Obligations.SharesReconstructForEveryDraw := by
  refine ⟨fun _ _ hs hk => joinKeyBytes_splitKeyWith hs hk, fun shareA iv ha hv => ?_⟩
  have hb : (xorBytes iv shareA).length = 16 := xorBytes_length hv ha
  refine bytes_ext_getD (xorBytes_length ha hb) hv fun k _ => ?_
  calc (xorBytes shareA (xorBytes iv shareA)).getD k 0
    _ = shareA.getD k 0 ^^^ (iv.getD k 0 ^^^ shareA.getD k 0) := by
      rw [xorBytes_getD (ha.trans hb.symm), xorBytes_getD (hv.trans ha.symm)]
    _ = iv.getD k 0 := xor_mask_cancel _ _

/-- Settles O57: the shares that `splitKey` answers have the length `joinKey` takes, and joining them gives the key. -/
theorem joiningASplitKeyGivesTheKeyBack : Obligations.JoiningASplitKeyGivesTheKeyBack := by
  intro s key h
  have hs (j : Nat) : (drawBytes (s.draws + 1 + j) 4).length = 4 := drawBytes_length _ 4
  exact ⟨_, _, _, exec_shareSplitKey h s, rfl, exec_shareJoinKey (splitKeyWith_length hs h) _,
    congrArg Response.bytes (joinKeyBytes_splitKeyWith hs h), rfl⟩

/-- Settles O58: each host call looks at the length before anything else. -/
theorem wrongLengthInputsAreErrorsWithoutOutput : Obligations.WrongLengthInputsAreErrorsWithoutOutput :=
  fun _ _ => ⟨fun h => if_neg h, fun h => if_neg h, fun h => if_neg h⟩

end Sys2Proof.Machine
end

section
/-! SUPPORT. The settled statements on the engine's faults and on the trap of an admitted access (spec/60_exceptions.md R260 to R269):
that it completes, what it leaves at its address, and the reply. -/

namespace Sys2Proof.Machine

/-- Settles O9: the step serves the report, and the program counter is that of the state before it. -/
theorem engineFaultsEndTheRun : Obligations.EngineFaultsEndTheRun :=
  fun _ _ => ⟨step_of_requests_cons, step_of_requests_cons⟩

section
variable {i : Instr} {a : Word} {s t : State} (hwf : i.wf = true) (hw : inWindow a = true) (h : exec i s = .next t)
include hwf hw h

/-- A read in the window that completes ends in the read trap at its address (R228). -/
theorem exec_read_ends_in_trap (he : encode i = wordAccess .read a) : ∃ s' v, t = State.answerRead s' a v := by
  cases i with
  | outsideWindow u =>
    cases he
    simp [Instr.wf, hw] at hwf
  | refuseSubword acc half b => cases h
  | _ => cases he <;> cases h <;> exact ⟨_, _, rfl⟩

/-- A write in the window that completes ends in the write trap at its address (R229). -/
theorem exec_write_ends_in_trap {v : Word} (he : encode i = wordAccess (.write v) a) :
    ∃ s', t = State.finishWrite s' a v := by
  cases i with
  | outsideWindow u =>
    cases he
    simp [Instr.wf, hw] at hwf
  | refuseSubword acc half b => cases h
  | _ => cases he <;> cases h <;> exact ⟨_, rfl⟩

end

section
variable {a : Word} (hw : inWindow a = true) (ha : aligned a = true) (s : State)
include hw

include ha in
/-- An admitted access completes: outside the regions nothing can stop it, and in a region the owner's transaction runs in every
state (R260). -/
theorem exec_decode_admitted_completes (acc : DataAccess) : ∃ t, exec (decode ⟨.data acc, 2#2, a⟩) s = .next t := by
  cases hr : regionOf a with
  | none =>
    obtain ⟨hread, hwrite⟩ := decode_unmapped (a := a) (by simp [Instr.wf, hw, ha, hr])
    cases acc with
    | read => exact ⟨_, congrArg (exec · s) hread⟩
    | write v => exact ⟨_, congrArg (exec · s) (hwrite v)⟩
  | some p =>
    obtain ⟨t, -, ht, -⟩ :=
      aTransactionReadsOnlyItsPeripheral _ p s s (ownerOf_decode hr ha) (Block.agreeOn_refl p _) rfl rfl
    exact ⟨t, ht⟩

/-- A transaction in the window that completes is handled (R230, R231). -/
theorem onAccess_handled {access : BusAccess} {size : BitVec 2} {t : State}
    (h : exec (decode ⟨access, size, a⟩) s = .next t) : onAccess ⟨access, size, a⟩ s = some .handled := by
  simp [onAccess, h, trapReply, hw]

end

/-- Settles O44: the access completes, and it ends in the trap, which stores its word at the address. -/
theorem everyAdmittedTransactionCompletes : Obligations.EveryAdmittedTransactionCompletes := by
  intro s a v hw ha
  rw [← aligned_iff] at ha
  obtain ⟨t, ht⟩ := exec_decode_admitted_completes hw ha s .read
  obtain ⟨u, hu⟩ := exec_decode_admitted_completes hw ha s (.write v)
  obtain ⟨s₁, r, rfl⟩ := exec_read_ends_in_trap (decode_wf _) hw ht (encode_decode _)
  obtain ⟨s₂, rfl⟩ := exec_write_ends_in_trap (decode_wf _) hw hu (encode_decode _)
  exact ⟨⟨_, r, ht, rfl, Memory.readBytes_writeWord s₁.mem a r⟩, ⟨_, hu, rfl, Memory.readBytes_writeWord s₂.mem a v⟩,
    onAccess_handled hw s ht, onAccess_handled hw s hu⟩

end Sys2Proof.Machine
end
